-- ==== Sys2Proof/Word.lean ====
section
/-! DEFINITION. The two word types of the machine: bytes (registers, memory, operands) and 16-bit
words (the program counter and CPU addresses). spec/00_scope.md R6, R12. -/

namespace Sys2Proof

/-- An 8-bit value: `A`, `X`, `Y`, `SP`, `P`, every memory byte and every operand byte (R6, R12). -/
abbrev Byte := BitVec 8

/-- A 16-bit value: `PC` and every CPU address (R6, R25). -/
abbrev Word := BitVec 16

end Sys2Proof
end

