-- ==== Sys2Proof/Syntax.lean ====
section
/-! DEFINITION. The instructions: one constructor per row of spec/opcode_table.json (spec/30_encoding.md
R124, R126), with the operand bytes of its format (R120, R121). The fifteen assigned opcodes carry their
mnemonic; `unassignedXX` is the opcode byte `0xXX` outside the table (R126, R200). -/

namespace Sys2Proof

/-- One instruction, in opcode order. -/
inductive Instr where
  /-- `BRK`: halt the CPU (R191). -/
  | brk
  | unassigned01
  | unassigned02
  | unassigned03
  | unassigned04
  | unassigned05
  | unassigned06
  | unassigned07
  | unassigned08
  | unassigned09
  | unassigned0A
  | unassigned0B
  | unassigned0C
  | unassigned0D
  | unassigned0E
  | unassigned0F
  | unassigned10
  | unassigned11
  | unassigned12
  | unassigned13
  | unassigned14
  | unassigned15
  | unassigned16
  | unassigned17
  | unassigned18
  | unassigned19
  | unassigned1A
  | unassigned1B
  | unassigned1C
  | unassigned1D
  | unassigned1E
  | unassigned1F
  | unassigned20
  | unassigned21
  | unassigned22
  | unassigned23
  | unassigned24
  | unassigned25
  | unassigned26
  | unassigned27
  | unassigned28
  | unassigned29
  | unassigned2A
  | unassigned2B
  | unassigned2C
  | unassigned2D
  | unassigned2E
  | unassigned2F
  | unassigned30
  | unassigned31
  | unassigned32
  | unassigned33
  | unassigned34
  | unassigned35
  | unassigned36
  | unassigned37
  | unassigned38
  | unassigned39
  | unassigned3A
  | unassigned3B
  | unassigned3C
  | unassigned3D
  | unassigned3E
  | unassigned3F
  | unassigned40
  | unassigned41
  | unassigned42
  | unassigned43
  | unassigned44
  | unassigned45
  | unassigned46
  | unassigned47
  | unassigned48
  | unassigned49
  | unassigned4A
  | unassigned4B
  /-- `JMP abs`: jump to `{hi, lo}` (R190). -/
  | jmp (lo hi : Byte)
  | unassigned4D
  | unassigned4E
  | unassigned4F
  | unassigned50
  | unassigned51
  | unassigned52
  | unassigned53
  | unassigned54
  | unassigned55
  | unassigned56
  | unassigned57
  | unassigned58
  | unassigned59
  | unassigned5A
  | unassigned5B
  | unassigned5C
  | unassigned5D
  | unassigned5E
  | unassigned5F
  | unassigned60
  | unassigned61
  | unassigned62
  | unassigned63
  | unassigned64
  | unassigned65
  | unassigned66
  | unassigned67
  | unassigned68
  | unassigned69
  | unassigned6A
  | unassigned6B
  | unassigned6C
  | unassigned6D
  | unassigned6E
  | unassigned6F
  | unassigned70
  | unassigned71
  | unassigned72
  | unassigned73
  | unassigned74
  | unassigned75
  | unassigned76
  | unassigned77
  | unassigned78
  | unassigned79
  | unassigned7A
  | unassigned7B
  | unassigned7C
  | unassigned7D
  | unassigned7E
  | unassigned7F
  | unassigned80
  | unassigned81
  | unassigned82
  | unassigned83
  /-- `STY zp`: store `Y` in page zero (R167). -/
  | sty (zp : Byte)
  /-- `STA zp`: store `A` in page zero (R165). -/
  | sta (zp : Byte)
  /-- `STX zp`: store `X` in page zero (R166). -/
  | stx (zp : Byte)
  | unassigned87
  /-- `DEY`: subtract one from `Y` (R183). -/
  | dey
  | unassigned89
  | unassigned8A
  | unassigned8B
  | unassigned8C
  | unassigned8D
  | unassigned8E
  | unassigned8F
  | unassigned90
  | unassigned91
  | unassigned92
  | unassigned93
  | unassigned94
  | unassigned95
  | unassigned96
  | unassigned97
  | unassigned98
  | unassigned99
  | unassigned9A
  | unassigned9B
  | unassigned9C
  | unassigned9D
  | unassigned9E
  | unassigned9F
  /-- `LDY #imm`: load `Y` (R157). -/
  | ldy (imm : Byte)
  | unassignedA1
  /-- `LDX #imm`: load `X` (R156). -/
  | ldx (imm : Byte)
  | unassignedA3
  | unassignedA4
  | unassignedA5
  | unassignedA6
  | unassignedA7
  /-- `TAY`: copy `A` to `Y` (R176). -/
  | tay
  /-- `LDA #imm`: load `A` (R155). -/
  | lda (imm : Byte)
  /-- `TAX`: copy `A` to `X` (R175). -/
  | tax
  | unassignedAB
  | unassignedAC
  | unassignedAD
  | unassignedAE
  | unassignedAF
  | unassignedB0
  | unassignedB1
  | unassignedB2
  | unassignedB3
  | unassignedB4
  | unassignedB5
  | unassignedB6
  | unassignedB7
  | unassignedB8
  | unassignedB9
  | unassignedBA
  | unassignedBB
  | unassignedBC
  | unassignedBD
  | unassignedBE
  | unassignedBF
  | unassignedC0
  | unassignedC1
  | unassignedC2
  | unassignedC3
  | unassignedC4
  | unassignedC5
  | unassignedC6
  | unassignedC7
  /-- `INY`: add one to `Y` (R181). -/
  | iny
  | unassignedC9
  /-- `DEX`: subtract one from `X` (R182). -/
  | dex
  | unassignedCB
  | unassignedCC
  | unassignedCD
  | unassignedCE
  | unassignedCF
  | unassignedD0
  | unassignedD1
  | unassignedD2
  | unassignedD3
  | unassignedD4
  | unassignedD5
  | unassignedD6
  | unassignedD7
  | unassignedD8
  | unassignedD9
  | unassignedDA
  | unassignedDB
  | unassignedDC
  | unassignedDD
  | unassignedDE
  | unassignedDF
  | unassignedE0
  | unassignedE1
  | unassignedE2
  | unassignedE3
  | unassignedE4
  | unassignedE5
  | unassignedE6
  | unassignedE7
  /-- `INX`: add one to `X` (R180). -/
  | inx
  | unassignedE9
  /-- `NOP`: no operation (R150). -/
  | nop
  | unassignedEB
  | unassignedEC
  | unassignedED
  | unassignedEE
  | unassignedEF
  | unassignedF0
  | unassignedF1
  | unassignedF2
  | unassignedF3
  | unassignedF4
  | unassignedF5
  | unassignedF6
  | unassignedF7
  | unassignedF8
  | unassignedF9
  | unassignedFA
  | unassignedFB
  | unassignedFC
  | unassignedFD
  | unassignedFE
  | unassignedFF
  deriving DecidableEq, Repr

end Sys2Proof
end

