-- ==== Sys2Proof/WellFormed.lean ====
section
/-! DEFINITION. What is well formed: instructions as syntax, and the byte strings that hold one whole
instruction (spec/30_encoding.md R120, R123, R127). -/

namespace Sys2Proof

/-- How many operand bytes follow the opcode byte `op` (R120, R123): two for `JMP abs`, one for the
immediate and zero-page formats, none for implied and unassigned opcodes. -/
def operandCount (op : Byte) : Nat :=
  if op = 0x4C then 2
  else if op ∈ [0xA9, 0xA2, 0xA0, 0x85, 0x86, 0x84] then 1
  else 0

/-- A byte string begins with one whole instruction: an opcode byte and all its operand bytes (R120). -/
def codeWellFormed : List Byte → Bool
  | [] => false
  | op :: rest => decide (operandCount op ≤ rest.length)

/-- An instruction is well formed. Every operand is a byte and "no operand value is reserved or illegal"
(R127), so every instruction is: what can be ill formed is a byte string, `codeWellFormed`. -/
def Instr.wellFormed (_ : Instr) : Bool := true

end Sys2Proof
end

