-- ==== Sys2Proof/Decode.lean ====
section
/-! DEFINITION. The decoder and the encoder: the opcode map of spec/30_encoding.md R124 at the default
of the parameter `OPCODE_MAP` (log entry 5), as the 16 by 16 grid of R125. -/

namespace Sys2Proof

/-- What the grid holds for one opcode byte: the format of R120 and the instruction it builds from the
operand bytes that follow. -/
inductive Form where
  /-- Implied: one byte (R120). -/
  | imp (i : Instr)
  /-- Immediate: two bytes, `imm8` (R120). -/
  | imm (mk : Byte → Instr)
  /-- Zero page: two bytes, `zp8` (R120). -/
  | zp (mk : Byte → Instr)
  /-- Absolute: three bytes, `lo8` then `hi8` (R120). -/
  | abs (mk : Byte → Byte → Instr)
  /-- Unassigned: one byte, whatever a 6502 would make of it (R126). -/
  | una (i : Instr)

/-- Operand bytes of a format (R120). -/
def Form.operands : Form → Nat
  | .imp _ => 0
  | .imm _ => 1
  | .zp _ => 1
  | .abs _ => 2
  | .una _ => 0

/-- The instruction, given the bytes after the opcode: `operand 0` is the next byte, `operand 1` the one
after it (R121, R130). -/
def Form.build (operand : Nat → Byte) : Form → Instr
  | .imp i => i
  | .imm mk => mk (operand 0)
  | .zp mk => mk (operand 0)
  | .abs mk => mk (operand 0) (operand 1)
  | .una i => i

/-- Opcodes `0x00` to `0x0F` (R124, R125, R126). -/
def gridRow0 : Vector Form 16 := #v[
  .imp .brk, .una .unassigned01, .una .unassigned02, .una .unassigned03,
  .una .unassigned04, .una .unassigned05, .una .unassigned06, .una .unassigned07,
  .una .unassigned08, .una .unassigned09, .una .unassigned0A, .una .unassigned0B,
  .una .unassigned0C, .una .unassigned0D, .una .unassigned0E, .una .unassigned0F]

/-- Opcodes `0x10` to `0x1F` (R124, R125, R126). -/
def gridRow1 : Vector Form 16 := #v[
  .una .unassigned10, .una .unassigned11, .una .unassigned12, .una .unassigned13,
  .una .unassigned14, .una .unassigned15, .una .unassigned16, .una .unassigned17,
  .una .unassigned18, .una .unassigned19, .una .unassigned1A, .una .unassigned1B,
  .una .unassigned1C, .una .unassigned1D, .una .unassigned1E, .una .unassigned1F]

/-- Opcodes `0x20` to `0x2F` (R124, R125, R126). -/
def gridRow2 : Vector Form 16 := #v[
  .una .unassigned20, .una .unassigned21, .una .unassigned22, .una .unassigned23,
  .una .unassigned24, .una .unassigned25, .una .unassigned26, .una .unassigned27,
  .una .unassigned28, .una .unassigned29, .una .unassigned2A, .una .unassigned2B,
  .una .unassigned2C, .una .unassigned2D, .una .unassigned2E, .una .unassigned2F]

/-- Opcodes `0x30` to `0x3F` (R124, R125, R126). -/
def gridRow3 : Vector Form 16 := #v[
  .una .unassigned30, .una .unassigned31, .una .unassigned32, .una .unassigned33,
  .una .unassigned34, .una .unassigned35, .una .unassigned36, .una .unassigned37,
  .una .unassigned38, .una .unassigned39, .una .unassigned3A, .una .unassigned3B,
  .una .unassigned3C, .una .unassigned3D, .una .unassigned3E, .una .unassigned3F]

/-- Opcodes `0x40` to `0x4F` (R124, R125, R126). -/
def gridRow4 : Vector Form 16 := #v[
  .una .unassigned40, .una .unassigned41, .una .unassigned42, .una .unassigned43,
  .una .unassigned44, .una .unassigned45, .una .unassigned46, .una .unassigned47,
  .una .unassigned48, .una .unassigned49, .una .unassigned4A, .una .unassigned4B,
  .abs .jmp, .una .unassigned4D, .una .unassigned4E, .una .unassigned4F]

/-- Opcodes `0x50` to `0x5F` (R124, R125, R126). -/
def gridRow5 : Vector Form 16 := #v[
  .una .unassigned50, .una .unassigned51, .una .unassigned52, .una .unassigned53,
  .una .unassigned54, .una .unassigned55, .una .unassigned56, .una .unassigned57,
  .una .unassigned58, .una .unassigned59, .una .unassigned5A, .una .unassigned5B,
  .una .unassigned5C, .una .unassigned5D, .una .unassigned5E, .una .unassigned5F]

/-- Opcodes `0x60` to `0x6F` (R124, R125, R126). -/
def gridRow6 : Vector Form 16 := #v[
  .una .unassigned60, .una .unassigned61, .una .unassigned62, .una .unassigned63,
  .una .unassigned64, .una .unassigned65, .una .unassigned66, .una .unassigned67,
  .una .unassigned68, .una .unassigned69, .una .unassigned6A, .una .unassigned6B,
  .una .unassigned6C, .una .unassigned6D, .una .unassigned6E, .una .unassigned6F]

/-- Opcodes `0x70` to `0x7F` (R124, R125, R126). -/
def gridRow7 : Vector Form 16 := #v[
  .una .unassigned70, .una .unassigned71, .una .unassigned72, .una .unassigned73,
  .una .unassigned74, .una .unassigned75, .una .unassigned76, .una .unassigned77,
  .una .unassigned78, .una .unassigned79, .una .unassigned7A, .una .unassigned7B,
  .una .unassigned7C, .una .unassigned7D, .una .unassigned7E, .una .unassigned7F]

/-- Opcodes `0x80` to `0x8F` (R124, R125, R126). -/
def gridRow8 : Vector Form 16 := #v[
  .una .unassigned80, .una .unassigned81, .una .unassigned82, .una .unassigned83,
  .zp .sty, .zp .sta, .zp .stx, .una .unassigned87,
  .imp .dey, .una .unassigned89, .una .unassigned8A, .una .unassigned8B,
  .una .unassigned8C, .una .unassigned8D, .una .unassigned8E, .una .unassigned8F]

/-- Opcodes `0x90` to `0x9F` (R124, R125, R126). -/
def gridRow9 : Vector Form 16 := #v[
  .una .unassigned90, .una .unassigned91, .una .unassigned92, .una .unassigned93,
  .una .unassigned94, .una .unassigned95, .una .unassigned96, .una .unassigned97,
  .una .unassigned98, .una .unassigned99, .una .unassigned9A, .una .unassigned9B,
  .una .unassigned9C, .una .unassigned9D, .una .unassigned9E, .una .unassigned9F]

/-- Opcodes `0xA0` to `0xAF` (R124, R125, R126). -/
def gridRowA : Vector Form 16 := #v[
  .imm .ldy, .una .unassignedA1, .imm .ldx, .una .unassignedA3,
  .una .unassignedA4, .una .unassignedA5, .una .unassignedA6, .una .unassignedA7,
  .imp .tay, .imm .lda, .imp .tax, .una .unassignedAB,
  .una .unassignedAC, .una .unassignedAD, .una .unassignedAE, .una .unassignedAF]

/-- Opcodes `0xB0` to `0xBF` (R124, R125, R126). -/
def gridRowB : Vector Form 16 := #v[
  .una .unassignedB0, .una .unassignedB1, .una .unassignedB2, .una .unassignedB3,
  .una .unassignedB4, .una .unassignedB5, .una .unassignedB6, .una .unassignedB7,
  .una .unassignedB8, .una .unassignedB9, .una .unassignedBA, .una .unassignedBB,
  .una .unassignedBC, .una .unassignedBD, .una .unassignedBE, .una .unassignedBF]

/-- Opcodes `0xC0` to `0xCF` (R124, R125, R126). -/
def gridRowC : Vector Form 16 := #v[
  .una .unassignedC0, .una .unassignedC1, .una .unassignedC2, .una .unassignedC3,
  .una .unassignedC4, .una .unassignedC5, .una .unassignedC6, .una .unassignedC7,
  .imp .iny, .una .unassignedC9, .imp .dex, .una .unassignedCB,
  .una .unassignedCC, .una .unassignedCD, .una .unassignedCE, .una .unassignedCF]

/-- Opcodes `0xD0` to `0xDF` (R124, R125, R126). -/
def gridRowD : Vector Form 16 := #v[
  .una .unassignedD0, .una .unassignedD1, .una .unassignedD2, .una .unassignedD3,
  .una .unassignedD4, .una .unassignedD5, .una .unassignedD6, .una .unassignedD7,
  .una .unassignedD8, .una .unassignedD9, .una .unassignedDA, .una .unassignedDB,
  .una .unassignedDC, .una .unassignedDD, .una .unassignedDE, .una .unassignedDF]

/-- Opcodes `0xE0` to `0xEF` (R124, R125, R126). -/
def gridRowE : Vector Form 16 := #v[
  .una .unassignedE0, .una .unassignedE1, .una .unassignedE2, .una .unassignedE3,
  .una .unassignedE4, .una .unassignedE5, .una .unassignedE6, .una .unassignedE7,
  .imp .inx, .una .unassignedE9, .imp .nop, .una .unassignedEB,
  .una .unassignedEC, .una .unassignedED, .una .unassignedEE, .una .unassignedEF]

/-- Opcodes `0xF0` to `0xFF` (R124, R125, R126). -/
def gridRowF : Vector Form 16 := #v[
  .una .unassignedF0, .una .unassignedF1, .una .unassignedF2, .una .unassignedF3,
  .una .unassignedF4, .una .unassignedF5, .una .unassignedF6, .una .unassignedF7,
  .una .unassignedF8, .una .unassignedF9, .una .unassignedFA, .una .unassignedFB,
  .una .unassignedFC, .una .unassignedFD, .una .unassignedFE, .una .unassignedFF]

/-- The opcode map as a grid, row by high nibble, column by low nibble (R125). -/
def grid : Vector (Vector Form 16) 16 := #v[
  gridRow0, gridRow1, gridRow2, gridRow3, gridRow4, gridRow5, gridRow6, gridRow7,
  gridRow8, gridRow9, gridRowA, gridRowB, gridRowC, gridRowD, gridRowE, gridRowF]

/-- The grid's entry for an opcode byte: the whole byte selects it, no sub-field does (R121, R123). -/
def formOf (op : Byte) : Form :=
  (grid[op.toNat / 16]'(by have := op.isLt; omega))[op.toNat % 16]'(by omega)

/-- Why a byte string holds no whole instruction. -/
inductive DecodeError where
  /-- There is no opcode byte. -/
  | noOpcode
  /-- The opcode byte is there and an operand byte of its format is missing. -/
  | missingOperand (op : Byte)
  deriving DecidableEq, Repr

/-- Decodes the instruction at the front of a byte string and returns the bytes after it (R120, R123). Every
opcode byte has an instruction (R126), so the only strings it refuses, by name, are those that end too
soon. -/
def decode : List Byte → Except DecodeError (Instr × List Byte)
  | [] => .error .noOpcode
  | op :: rest =>
    if (formOf op).operands ≤ rest.length then
      .ok ((formOf op).build (fun k => rest.getD k 0), rest.drop (formOf op).operands)
    else .error (.missingOperand op)

/-- The bytes of an instruction, first byte first (R121, R124). -/
def encode : Instr → List Byte
  | .brk => [0x00]
  | .unassigned01 => [0x01]
  | .unassigned02 => [0x02]
  | .unassigned03 => [0x03]
  | .unassigned04 => [0x04]
  | .unassigned05 => [0x05]
  | .unassigned06 => [0x06]
  | .unassigned07 => [0x07]
  | .unassigned08 => [0x08]
  | .unassigned09 => [0x09]
  | .unassigned0A => [0x0A]
  | .unassigned0B => [0x0B]
  | .unassigned0C => [0x0C]
  | .unassigned0D => [0x0D]
  | .unassigned0E => [0x0E]
  | .unassigned0F => [0x0F]
  | .unassigned10 => [0x10]
  | .unassigned11 => [0x11]
  | .unassigned12 => [0x12]
  | .unassigned13 => [0x13]
  | .unassigned14 => [0x14]
  | .unassigned15 => [0x15]
  | .unassigned16 => [0x16]
  | .unassigned17 => [0x17]
  | .unassigned18 => [0x18]
  | .unassigned19 => [0x19]
  | .unassigned1A => [0x1A]
  | .unassigned1B => [0x1B]
  | .unassigned1C => [0x1C]
  | .unassigned1D => [0x1D]
  | .unassigned1E => [0x1E]
  | .unassigned1F => [0x1F]
  | .unassigned20 => [0x20]
  | .unassigned21 => [0x21]
  | .unassigned22 => [0x22]
  | .unassigned23 => [0x23]
  | .unassigned24 => [0x24]
  | .unassigned25 => [0x25]
  | .unassigned26 => [0x26]
  | .unassigned27 => [0x27]
  | .unassigned28 => [0x28]
  | .unassigned29 => [0x29]
  | .unassigned2A => [0x2A]
  | .unassigned2B => [0x2B]
  | .unassigned2C => [0x2C]
  | .unassigned2D => [0x2D]
  | .unassigned2E => [0x2E]
  | .unassigned2F => [0x2F]
  | .unassigned30 => [0x30]
  | .unassigned31 => [0x31]
  | .unassigned32 => [0x32]
  | .unassigned33 => [0x33]
  | .unassigned34 => [0x34]
  | .unassigned35 => [0x35]
  | .unassigned36 => [0x36]
  | .unassigned37 => [0x37]
  | .unassigned38 => [0x38]
  | .unassigned39 => [0x39]
  | .unassigned3A => [0x3A]
  | .unassigned3B => [0x3B]
  | .unassigned3C => [0x3C]
  | .unassigned3D => [0x3D]
  | .unassigned3E => [0x3E]
  | .unassigned3F => [0x3F]
  | .unassigned40 => [0x40]
  | .unassigned41 => [0x41]
  | .unassigned42 => [0x42]
  | .unassigned43 => [0x43]
  | .unassigned44 => [0x44]
  | .unassigned45 => [0x45]
  | .unassigned46 => [0x46]
  | .unassigned47 => [0x47]
  | .unassigned48 => [0x48]
  | .unassigned49 => [0x49]
  | .unassigned4A => [0x4A]
  | .unassigned4B => [0x4B]
  | .jmp lo hi => [0x4C, lo, hi]
  | .unassigned4D => [0x4D]
  | .unassigned4E => [0x4E]
  | .unassigned4F => [0x4F]
  | .unassigned50 => [0x50]
  | .unassigned51 => [0x51]
  | .unassigned52 => [0x52]
  | .unassigned53 => [0x53]
  | .unassigned54 => [0x54]
  | .unassigned55 => [0x55]
  | .unassigned56 => [0x56]
  | .unassigned57 => [0x57]
  | .unassigned58 => [0x58]
  | .unassigned59 => [0x59]
  | .unassigned5A => [0x5A]
  | .unassigned5B => [0x5B]
  | .unassigned5C => [0x5C]
  | .unassigned5D => [0x5D]
  | .unassigned5E => [0x5E]
  | .unassigned5F => [0x5F]
  | .unassigned60 => [0x60]
  | .unassigned61 => [0x61]
  | .unassigned62 => [0x62]
  | .unassigned63 => [0x63]
  | .unassigned64 => [0x64]
  | .unassigned65 => [0x65]
  | .unassigned66 => [0x66]
  | .unassigned67 => [0x67]
  | .unassigned68 => [0x68]
  | .unassigned69 => [0x69]
  | .unassigned6A => [0x6A]
  | .unassigned6B => [0x6B]
  | .unassigned6C => [0x6C]
  | .unassigned6D => [0x6D]
  | .unassigned6E => [0x6E]
  | .unassigned6F => [0x6F]
  | .unassigned70 => [0x70]
  | .unassigned71 => [0x71]
  | .unassigned72 => [0x72]
  | .unassigned73 => [0x73]
  | .unassigned74 => [0x74]
  | .unassigned75 => [0x75]
  | .unassigned76 => [0x76]
  | .unassigned77 => [0x77]
  | .unassigned78 => [0x78]
  | .unassigned79 => [0x79]
  | .unassigned7A => [0x7A]
  | .unassigned7B => [0x7B]
  | .unassigned7C => [0x7C]
  | .unassigned7D => [0x7D]
  | .unassigned7E => [0x7E]
  | .unassigned7F => [0x7F]
  | .unassigned80 => [0x80]
  | .unassigned81 => [0x81]
  | .unassigned82 => [0x82]
  | .unassigned83 => [0x83]
  | .sty zp => [0x84, zp]
  | .sta zp => [0x85, zp]
  | .stx zp => [0x86, zp]
  | .unassigned87 => [0x87]
  | .dey => [0x88]
  | .unassigned89 => [0x89]
  | .unassigned8A => [0x8A]
  | .unassigned8B => [0x8B]
  | .unassigned8C => [0x8C]
  | .unassigned8D => [0x8D]
  | .unassigned8E => [0x8E]
  | .unassigned8F => [0x8F]
  | .unassigned90 => [0x90]
  | .unassigned91 => [0x91]
  | .unassigned92 => [0x92]
  | .unassigned93 => [0x93]
  | .unassigned94 => [0x94]
  | .unassigned95 => [0x95]
  | .unassigned96 => [0x96]
  | .unassigned97 => [0x97]
  | .unassigned98 => [0x98]
  | .unassigned99 => [0x99]
  | .unassigned9A => [0x9A]
  | .unassigned9B => [0x9B]
  | .unassigned9C => [0x9C]
  | .unassigned9D => [0x9D]
  | .unassigned9E => [0x9E]
  | .unassigned9F => [0x9F]
  | .ldy imm => [0xA0, imm]
  | .unassignedA1 => [0xA1]
  | .ldx imm => [0xA2, imm]
  | .unassignedA3 => [0xA3]
  | .unassignedA4 => [0xA4]
  | .unassignedA5 => [0xA5]
  | .unassignedA6 => [0xA6]
  | .unassignedA7 => [0xA7]
  | .tay => [0xA8]
  | .lda imm => [0xA9, imm]
  | .tax => [0xAA]
  | .unassignedAB => [0xAB]
  | .unassignedAC => [0xAC]
  | .unassignedAD => [0xAD]
  | .unassignedAE => [0xAE]
  | .unassignedAF => [0xAF]
  | .unassignedB0 => [0xB0]
  | .unassignedB1 => [0xB1]
  | .unassignedB2 => [0xB2]
  | .unassignedB3 => [0xB3]
  | .unassignedB4 => [0xB4]
  | .unassignedB5 => [0xB5]
  | .unassignedB6 => [0xB6]
  | .unassignedB7 => [0xB7]
  | .unassignedB8 => [0xB8]
  | .unassignedB9 => [0xB9]
  | .unassignedBA => [0xBA]
  | .unassignedBB => [0xBB]
  | .unassignedBC => [0xBC]
  | .unassignedBD => [0xBD]
  | .unassignedBE => [0xBE]
  | .unassignedBF => [0xBF]
  | .unassignedC0 => [0xC0]
  | .unassignedC1 => [0xC1]
  | .unassignedC2 => [0xC2]
  | .unassignedC3 => [0xC3]
  | .unassignedC4 => [0xC4]
  | .unassignedC5 => [0xC5]
  | .unassignedC6 => [0xC6]
  | .unassignedC7 => [0xC7]
  | .iny => [0xC8]
  | .unassignedC9 => [0xC9]
  | .dex => [0xCA]
  | .unassignedCB => [0xCB]
  | .unassignedCC => [0xCC]
  | .unassignedCD => [0xCD]
  | .unassignedCE => [0xCE]
  | .unassignedCF => [0xCF]
  | .unassignedD0 => [0xD0]
  | .unassignedD1 => [0xD1]
  | .unassignedD2 => [0xD2]
  | .unassignedD3 => [0xD3]
  | .unassignedD4 => [0xD4]
  | .unassignedD5 => [0xD5]
  | .unassignedD6 => [0xD6]
  | .unassignedD7 => [0xD7]
  | .unassignedD8 => [0xD8]
  | .unassignedD9 => [0xD9]
  | .unassignedDA => [0xDA]
  | .unassignedDB => [0xDB]
  | .unassignedDC => [0xDC]
  | .unassignedDD => [0xDD]
  | .unassignedDE => [0xDE]
  | .unassignedDF => [0xDF]
  | .unassignedE0 => [0xE0]
  | .unassignedE1 => [0xE1]
  | .unassignedE2 => [0xE2]
  | .unassignedE3 => [0xE3]
  | .unassignedE4 => [0xE4]
  | .unassignedE5 => [0xE5]
  | .unassignedE6 => [0xE6]
  | .unassignedE7 => [0xE7]
  | .inx => [0xE8]
  | .unassignedE9 => [0xE9]
  | .nop => [0xEA]
  | .unassignedEB => [0xEB]
  | .unassignedEC => [0xEC]
  | .unassignedED => [0xED]
  | .unassignedEE => [0xEE]
  | .unassignedEF => [0xEF]
  | .unassignedF0 => [0xF0]
  | .unassignedF1 => [0xF1]
  | .unassignedF2 => [0xF2]
  | .unassignedF3 => [0xF3]
  | .unassignedF4 => [0xF4]
  | .unassignedF5 => [0xF5]
  | .unassignedF6 => [0xF6]
  | .unassignedF7 => [0xF7]
  | .unassignedF8 => [0xF8]
  | .unassignedF9 => [0xF9]
  | .unassignedFA => [0xFA]
  | .unassignedFB => [0xFB]
  | .unassignedFC => [0xFC]
  | .unassignedFD => [0xFD]
  | .unassignedFE => [0xFE]
  | .unassignedFF => [0xFF]

/-- The opcode byte of an instruction (R124). -/
def Instr.opcode (i : Instr) : Byte := (encode i).headD 0

/-- Byte `k` of an instruction whose bits are numbered from the first byte's bit 0 upwards; bits from
`nbits` on are zero. The numbering is a convention for writing a word down, no rule of the spec: DESIGN CHOICE,
log entry 23, safe. -/
def tableByte (nbits w k : Nat) : Byte := BitVec.ofNat 8 ((w % 2 ^ nbits) / 256 ^ k)

/-- The bytes of the instruction whose bits are `w`, out to the longest instruction (R120): the first byte
is bits 7..0, the second bits 15..8, the third bits 23..16. -/
def tableBytes (nbits w : Nat) : List Byte := [tableByte nbits w 0, tableByte nbits w 1, tableByte nbits w 2]

/-- What the decoder reads from the instruction whose bits are `w` (log entry 23). -/
def decodeTableWord (nbits w : Nat) : Option Instr :=
  match decode (tableBytes nbits w) with
  | .ok (i, _) => some i
  | .error _ => none

end Sys2Proof
end

