-- ==== Sys2Proof/Config.lean ====
section
/-! DEFINITION. What the spec fixes once for the machine (spec/00_scope.md R6) and the types of the
parameters it leaves open (R7). The values chosen for the parameters stand in
Sys2Proof/Machine/Params.lean. The one parameter with no value at all is the frame source. -/

namespace Sys2Proof.Config

/-- `UNKNOWN_OPCODE_POLICY` of R7: what an unassigned opcode does (92_eei_decisions.md D2). -/
inductive UnknownOpcodePolicy where
  | nop2
  | refuse
  deriving DecidableEq, Repr

/-- `TOTAL_CYCLES_MODE` of R7: what a step adds to `totalCycles` (92_eei_decisions.md D3). -/
inductive TotalCyclesMode where
  | source
  | corrected
  deriving DecidableEq, Repr

/-- Bytes of `cpuRam` (R6, R42). -/
def cpuRamSize : Nat := 2048

/-- Bytes of `ppuRegs` (R6, R42). -/
def ppuRegsSize : Nat := 8

/-- Bytes of `apuRegs` (R6, R42). -/
def apuRegsSize : Nat := 24

/-- Bytes of one PRG unit of an iNES image (R6, R41). -/
def prgUnit : Nat := 16384

/-- Bytes of one CHR unit of an iNES image (R6, R41). -/
def chrUnit : Nat := 8192

/-- Bytes of the frame buffer: 240 rows of 256 columns of 3 bytes (R6, R44). -/
def frameBytes : Nat := 240 * 256 * 3

/-- CPU cycles one `stepFrame` budgets (R6, R236). -/
def frameBudget : Nat := 29780

/-- `FrameSource` of R7 and R232: byte `index` (row * 768 + column * 3 + channel) of the frame drawn for
`tick`. The spec gives no formula and lets a model assume only that it is a function, so it has no
body here: DESIGN CHOICE, log entry 10, safe. -/
opaque frameSource : (tick : Nat) → (index : Nat) → Byte

end Sys2Proof.Config
end

