-- ==== Sys2Proof/Machine/Params.lean ====
section
/-! DEFINITION. The values this model gives the parameters that spec/00_scope.md R7 leaves open: in
each case the default the spec itself names. -/

namespace Sys2Proof.Machine

/-- `UNKNOWN_OPCODE_POLICY = nop2`, the spec's default (R200, 92_eei_decisions.md D2; log entry 7). -/
def unknownOpcodePolicy : Config.UnknownOpcodePolicy := .nop2

/-- `TOTAL_CYCLES_MODE = source`, the spec's default (R35, 92_eei_decisions.md D3; log entry 8). -/
def totalCyclesMode : Config.TotalCyclesMode := .source

/-- What a storage cell that nothing has written reads as: `INIT_BUS`'s default, every byte `0x00`
(R43, 92_eei_decisions.md D11). DESIGN CHOICE, log entry 4, unsafe. -/
def unlistedByte : Byte := 0x00

/-- PictureUnit timing steps after each CPU step of a frame (R6, R236). -/
def pictureStepsPerCpuStep : Nat := 3

end Sys2Proof.Machine
end

