-- ==== Sys2Proof/Machine/State.lean ====
section
/-! DEFINITION. The whole machine state (spec/10_state.md R20), the outcomes that stop a step, and the
state after reset (R48). Everything is plain data. -/

namespace Sys2Proof.Machine

/-- Byte storage: the (index, byte) cells whose byte differs from what an unlisted cell reads as, in
rising order of index. The operations on it are in Machine/Ops.lean. -/
abbrev Memory := List Host.Cell

/-- A loaded cartridge image (R40, R41). Nothing changes one after the loader built it. -/
structure Cartridge where
  /-- PRG ROM, indexed from 0 (R40, R52). -/
  prgRom : Memory
  /-- CHR ROM, indexed from 0; read by nothing (R94). -/
  chrRom : Memory
  /-- Mapper number; bookkeeping only (R71, R87). -/
  mapperId : Byte
  /-- Length of `prgRom`: `16384 * header[4]` (R41). -/
  prgSize : Nat
  /-- Length of `chrRom`: `8192 * header[5]` (R41). -/
  chrSize : Nat
  deriving DecidableEq, Repr

/-- The machine state: exactly the fields of R20. -/
structure State where
  /-- The accumulator `A` (R21). -/
  a : Byte
  /-- Index register `X` (R21). -/
  x : Byte
  /-- Index register `Y` (R21). -/
  y : Byte
  /-- `SP`, read and written by no instruction (R24). -/
  sp : Byte
  /-- `PC`: between steps the address of the next opcode byte (R25). -/
  pc : Word
  /-- Status flags `P`: N V _ B D I Z C from bit 7 down (R27). -/
  p : Byte
  /-- Running cycle counter, never cleared between steps (R34, 90_conflicts.md C1). -/
  cycles : Nat
  /-- Running total; its rule is R35. -/
  totalCycles : Nat
  /-- HALTED (`true`) or RUNNING (`false`) (R36). -/
  halted : Bool
  /-- The Bus's 2048 bytes of RAM (R42). -/
  cpuRam : Memory
  /-- The Bus's 8 PPU register bytes (R42, R65). -/
  ppuRegs : Memory
  /-- The Bus's 24 APU/IO register bytes (R42, R66). -/
  apuRegs : Memory
  /-- The Console's cartridge; none before the first successful `loadRom` (R48, R49). -/
  cart : Option Cartridge
  /-- PictureUnit dot, 0 to 340 (R44). -/
  dot : Nat
  /-- PictureUnit scanline, 0 to 261 (R44). -/
  scanline : Nat
  /-- PictureUnit frame counter (R45). -/
  frameCount : Nat
  /-- The last frame drawn: 240 x 256 x 3 bytes, row by row; output only (R44). -/
  frameBuffer : Memory
  /-- The Console's frame tick (R46). -/
  tick : Nat
  deriving DecidableEq, Repr

/-- Faults of the machine: there are none. "The running core raises none" (60_exceptions.md R210), so
the type has no constructor. -/
inductive Fault where
  deriving DecidableEq, Repr

/-- Why the model gives a step or a host call no meaning. -/
inductive Refusal where
  /-- Raised by an arm of `exec` whose instruction has no meaning yet; no arm is left that raises it.
  Safe: nothing is claimed of such a step. -/
  | notModelled (mnemonic : String)
  /-- Raised by a step, a reset, a frame or a Bus access before the first successful `loadRom`, as R49
  says it must be. Safe. -/
  | noCartridge
  /-- Raised where a cartridge with `prgSize = 0` would run: R69 (a) refuses it. Safe. -/
  | emptyPrg
  /-- Raised by an unassigned opcode under `UNKNOWN_OPCODE_POLICY = refuse` only (R200), which is not the
  policy this model takes. Safe. -/
  | unassignedOpcode
  deriving DecidableEq, Repr

/-- The machine after reset (R48, column `Console.reset()`), on a Console just constructed: no cartridge
is loaded (R266), Bus storage holds `INIT_BUS`, and `A`, `X`, `Y`, `SP`, `P`, `cycles`, `totalCycles`,
`halted` and the counters have the reset values of R48. `PC` has no value in the spec while there is no
reset vector to read: DESIGN CHOICE `0x0000`, log entries 1 and 2, unsafe. The frame buffer is all
zero: DESIGN CHOICE, log entry 6, unsafe. -/
def State.reset : State where
  a := 0x00
  x := 0x00
  y := 0x00
  sp := 0xFD
  pc := 0x0000
  p := 0x24
  cycles := 7
  totalCycles := 0
  halted := false
  cpuRam := []
  ppuRegs := []
  apuRegs := []
  cart := none
  dot := 0
  scanline := 0
  frameCount := 0
  frameBuffer := []
  tick := 0

end Sys2Proof.Machine
end

