-- ==== Sys2Proof/Machine/Ops.lean ====
section
/-! DEFINITION. The named operations over storage, the Bus and the registers: sparse byte storage, the
address decoding of spec/20_memory.md R60 with BusRead and BusWrite (R61, R62), register and PC writes,
the cycle bookkeeping of spec/30_encoding.md R131, and the halt of spec/45_jump_and_break.md R191. -/

namespace Sys2Proof.Machine

/-! ### Byte storage -/

/-- The byte at index `k`; an unlisted index reads as `unlistedByte`. -/
def Memory.read : Memory → Nat → Byte
  | [], _ => unlistedByte
  | c :: m, k => if c.1 = k then c.2 else Memory.read m k

/-- Puts the cell of index `k` in its place by rising index. -/
def Memory.insert (k : Nat) (v : Byte) : Memory → Memory
  | [] => [(k, v)]
  | c :: m => if c.1 < k then c :: Memory.insert k v m else (k, v) :: c :: m

/-- Takes every cell of index `k` out. -/
def Memory.erase (k : Nat) (m : Memory) : Memory := m.filter (fun c => c.1 ≠ k)

/-- Stores `v` at index `k`. Storing what an unlisted index reads as leaves no cell, so equal storage is
equal data. -/
def Memory.write (m : Memory) (k : Nat) (v : Byte) : Memory :=
  if v = unlistedByte then m.erase k else Memory.insert k v (m.erase k)

/-- The canonical form: indices strictly rising, no cell equal to what an unlisted index reads as. -/
abbrev Memory.wf (m : Memory) : Prop :=
  m.Pairwise (fun c d => c.1 < d.1) ∧ ∀ c ∈ m, c.2 ≠ unlistedByte

/-- Every listed index is below the storage's size. -/
abbrev Memory.within (size : Nat) (m : Memory) : Prop := ∀ c ∈ m, c.1 < size

/-- The storage that holds the bytes of a list from index `k` upwards. -/
def Memory.ofBytesFrom (k : Nat) : List Byte → Memory
  | [] => []
  | b :: bs =>
    if b = unlistedByte then Memory.ofBytesFrom (k + 1) bs
    else (k, b) :: Memory.ofBytesFrom (k + 1) bs

/-- The storage that holds exactly the bytes of a list, from index 0. -/
def Memory.ofBytes (bs : List Byte) : Memory := Memory.ofBytesFrom 0 bs

/-- The storage that holds `f k`, `f (k + 1)`, …, `n` bytes from index `k` upwards. -/
def Memory.tabulate (f : Nat → Byte) : (n k : Nat) → Memory
  | 0, _ => []
  | n + 1, k =>
    if f k = unlistedByte then Memory.tabulate f n (k + 1)
    else (k, f k) :: Memory.tabulate f n (k + 1)

/-! ### The cartridge -/

/-- The cartridge a step may run: it must have been loaded (R49) and hold some PRG (R69). -/
def loadedCart (s : State) : Except Refusal Cartridge :=
  match s.cart with
  | none => .error .noCartridge
  | some c => if c.prgSize = 0 then .error .emptyPrg else .ok c

/-! ### The Bus -/

/-- What stands behind a CPU address (R60). -/
inductive BusTarget where
  | ram (i : Nat)
  | ppu (i : Nat)
  | apu (i : Nat)
  | unmapped
  | prg (offset : Nat)
  deriving DecidableEq, Repr

/-- The five ranges of R60, tried in order, after the mask of R63. The eight addresses `0x4018`-`0x401F` of
the APU window have no storage (R66, 90_conflicts.md C2; log entry 11). -/
def busTarget (addr : Nat) : BusTarget :=
  let a := addr % 0x10000
  if a < 0x2000 then .ram (a % 0x0800)
  else if a < 0x4000 then .ppu (a % 8)
  else if a < 0x4000 + Config.apuRegsSize then .apu (a - 0x4000)
  else if a < 0x4020 then .unmapped
  else if a < 0x8000 then .unmapped
  else .prg (a - 0x8000)

/-- `BusRead(addr)` with cartridge `c` on the Bus (R61). It changes no state (R75). -/
def busRead (c : Cartridge) (s : State) (addr : Nat) : Byte :=
  match busTarget addr with
  | .ram i => s.cpuRam.read i
  | .ppu i => s.ppuRegs.read i
  | .apu i => s.apuRegs.read i
  | .unmapped => 0x00
  | .prg offset => c.prgRom.read (offset % c.prgSize)

/-- `BusWrite(addr, v)`, both arguments masked (R62, R63): stores one byte or does nothing. -/
def busWrite (s : State) (addr v : Nat) : State :=
  match busTarget addr with
  | .ram i => { s with cpuRam := s.cpuRam.write i (BitVec.ofNat 8 v) }
  | .ppu i => { s with ppuRegs := s.ppuRegs.write i (BitVec.ofNat 8 v) }
  | .apu i => { s with apuRegs := s.apuRegs.write i (BitVec.ofNat 8 v) }
  | .unmapped => s
  | .prg _ => s

/-- `MemRead(addr, 1)` (R12). -/
def memRead (c : Cartridge) (s : State) (addr : Word) : Byte := busRead c s addr.toNat

/-- `MemRead(addr, 2)`: low byte first, each address wrapped on its own (R12, R73). -/
def memRead2 (c : Cartridge) (s : State) (addr : Word) : Word := memRead c s (addr + 1) ++ memRead c s addr

/-- `MemWrite(addr, 1, v)` (R12). -/
def memWrite (s : State) (addr : Word) (v : Byte) : State := busWrite s addr.toNat v.toNat

/-! ### Registers and the program counter -/

/-- Writes `A`. -/
def State.setA (s : State) (v : Byte) : State := { s with a := v }

/-- Writes `X`. -/
def State.setX (s : State) (v : Byte) : State := { s with x := v }

/-- Writes `Y`. -/
def State.setY (s : State) (v : Byte) : State := { s with y := v }

/-- Writes `P`. -/
def State.setP (s : State) (v : Byte) : State := { s with p := v }

/-- Writes `PC`. -/
def State.setPC (s : State) (target : Word) : State := { s with pc := target }

/-- `PC` after the fetch of an instruction of `n` bytes: one increment per byte, wrapping (R25, R130). -/
def State.advancePC (s : State) (n : Nat) : State := s.setPC (s.pc + BitVec.ofNat 16 n)

/-! ### Bookkeeping and halt -/

/-- The cycle bookkeeping of R131 for a step of cost `cost`, in either mode. -/
def State.chargeIn (mode : Config.TotalCyclesMode) (s : State) (cost : Nat) : State :=
  { s with
    cycles := s.cycles + cost
    totalCycles := s.totalCycles + match mode with
      | .source => s.cycles + cost
      | .corrected => cost }

/-- The bookkeeping in the model's mode (R131, log entry 8). -/
def State.charge (s : State) (cost : Nat) : State := s.chargeIn totalCyclesMode cost

/-- Enters HALTED. This is all that stands here for taking an exception: the machine has none, and `BRK`
saves nothing and goes nowhere (R191, R210, R214). The way out is a reset (R215). -/
def State.halt (s : State) : State := { s with halted := true }

/-- A step in the HALTED state: cost 1 and nothing else (R129, D4). -/
def haltedStep (s : State) : State := s.charge 1

/-- What an unassigned opcode does after its fetch (R200), in either policy. -/
def unassignedIn (policy : Config.UnknownOpcodePolicy) (s : State) : Host.Outcome State Fault Refusal :=
  match policy with
  | .nop2 => .next ((s.advancePC 1).charge 2)
  | .refuse => .refused .unassignedOpcode

/-- What an unassigned opcode does in the model's policy (R126, R200, log entry 7). -/
def unassignedStep (s : State) : Host.Outcome State Fault Refusal := unassignedIn unknownOpcodePolicy s

/-! ### CPU reset -/

/-- `CPU.reset()` with cartridge `c` on the Bus (R260): every CPU field, and nothing else. -/
def cpuReset (c : Cartridge) (s : State) : State :=
  { s with
    pc := memRead2 c s 0xFFFC
    a := 0x00
    x := 0x00
    y := 0x00
    sp := 0xFD
    p := 0x24
    cycles := 7
    totalCycles := 0
    halted := false }

end Sys2Proof.Machine
end

