-- ==== Sys2Proof/Machine/Operands.lean ====
section
/-! DEFINITION. How operands are formed (spec/30_encoding.md R122): nothing is sign-extended, scaled or
shifted. -/

namespace Sys2Proof.Machine

/-- The value of an immediate operand: the byte itself (R122). -/
def immediate (imm : Byte) : Byte := imm

/-- The address of a zero-page operand, `zext_16(zp)`, in `0x0000`-`0x00FF` (R122). -/
def zeroPage (zp : Byte) : Word := zp.setWidth 16

/-- The target of an absolute operand, `{hi, lo}`: low byte at the lower address (R72, R122, D7). -/
def absTarget (lo hi : Byte) : Word := hi ++ lo

end Sys2Proof.Machine
end

