-- ==== Sys2Proof/Machine/Control.lean ====
section
/-! DEFINITION. Control transfer and halt: `JMP abs`, `BRK` (spec/45_jump_and_break.md). -/

namespace Sys2Proof.Machine

/-- `JMP abs` (R190): the two operand bytes are fetched before `PC` is replaced. -/
def execJmp (lo hi : Byte) (s : State) : Host.Outcome State Fault Refusal :=
  .next (((s.advancePC 3).setPC (absTarget lo hi)).charge 3)

/-- `BRK` (R191, D8): halts; pushes nothing, changes no flag, reads no vector, and leaves `PC` after its
opcode byte. -/
def execBrk (s : State) : Host.Outcome State Fault Refusal :=
  .next ((s.advancePC 1).halt.charge 7)

end Sys2Proof.Machine
end

