-- ==== Sys2Proof/Machine/Flags.lean ====
section
/-! DEFINITION. The status register `P` (spec/10_state.md R27) and its one flag computation, `SetZN`
(R30). -/

namespace Sys2Proof.Machine

/-- Mask of the Zero flag (R27, R30). -/
def zeroMask : Byte := 0x02

/-- Mask of the Negative flag (R27, R30). -/
def negativeMask : Byte := 0x80

/-- Flag N, bit 7 (R27). -/
def State.flagN (s : State) : Bool := s.p.getLsbD 7

/-- Flag V, bit 6; inert (R27, R33). -/
def State.flagV (s : State) : Bool := s.p.getLsbD 6

/-- Flag B, bit 4; inert (R27, R33). -/
def State.flagB (s : State) : Bool := s.p.getLsbD 4

/-- Flag D, bit 3; inert (R27, R33). -/
def State.flagD (s : State) : Bool := s.p.getLsbD 3

/-- Flag I, bit 2; inert (R27, R33). -/
def State.flagI (s : State) : Bool := s.p.getLsbD 2

/-- Flag Z, bit 1 (R27). -/
def State.flagZ (s : State) : Bool := s.p.getLsbD 1

/-- Flag C, bit 0; inert (R27, R33). -/
def State.flagC (s : State) : Bool := s.p.getLsbD 0

/-- `P` after `SetZN(v)` (R30). -/
def znFlags (p v : Byte) : Byte :=
  let cleared := p &&& ~~~(zeroMask ||| negativeMask)
  let withZ := if v = 0 then cleared ||| zeroMask else cleared
  if v.getLsbD 7 then withZ ||| negativeMask else withZ

/-- `SetZN(v)` (R30). -/
def State.setZN (s : State) (v : Byte) : State := s.setP (znFlags s.p v)

end Sys2Proof.Machine
end

