-- ==== Sys2Proof/Machine/IncDec.lean ====
section
/-! DEFINITION. Increment and decrement: `INX`, `INY`, `DEX`, `DEY` (spec/44_increment_decrement.md). Byte
addition wraps modulo 256 and neither C nor V is written (R184). -/

namespace Sys2Proof.Machine

/-- `INX` (R180). -/
def execInx (s : State) : Host.Outcome State Fault Refusal :=
  .next ((((s.advancePC 1).setX (s.x + 1)).setZN (s.x + 1)).charge 2)

/-- `INY` (R181). -/
def execIny (s : State) : Host.Outcome State Fault Refusal :=
  .next ((((s.advancePC 1).setY (s.y + 1)).setZN (s.y + 1)).charge 2)

/-- `DEX` (R182): `X + 255` modulo 256. -/
def execDex (s : State) : Host.Outcome State Fault Refusal :=
  .next ((((s.advancePC 1).setX (s.x + 255)).setZN (s.x + 255)).charge 2)

/-- `DEY` (R183): `Y + 255` modulo 256. -/
def execDey (s : State) : Host.Outcome State Fault Refusal :=
  .next ((((s.advancePC 1).setY (s.y + 255)).setZN (s.y + 255)).charge 2)

end Sys2Proof.Machine
end

