-- ==== Sys2Proof/Machine/Load.lean ====
section
/-! DEFINITION. Load immediate: `LDA`, `LDX`, `LDY` (spec/41_load_immediate.md). -/

namespace Sys2Proof.Machine

/-- `LDA #imm` (R155). -/
def execLda (imm : Byte) (s : State) : Host.Outcome State Fault Refusal :=
  .next ((((s.advancePC 2).setA (immediate imm)).setZN (immediate imm)).charge 2)

/-- `LDX #imm` (R156). -/
def execLdx (imm : Byte) (s : State) : Host.Outcome State Fault Refusal :=
  .next ((((s.advancePC 2).setX (immediate imm)).setZN (immediate imm)).charge 2)

/-- `LDY #imm` (R157). -/
def execLdy (imm : Byte) (s : State) : Host.Outcome State Fault Refusal :=
  .next ((((s.advancePC 2).setY (immediate imm)).setZN (immediate imm)).charge 2)

end Sys2Proof.Machine
end

