-- ==== Sys2Proof/Machine/Nop.lean ====
section
/-! DEFINITION. `NOP` (spec/40_nop.md). Every meaning runs from the state before the step: it moves `PC`
past the instruction's bytes (R130), has its effect, and ends in the bookkeeping (R131). -/

namespace Sys2Proof.Machine

/-- `NOP` (R150). -/
def execNop (s : State) : Host.Outcome State Fault Refusal :=
  .next ((s.advancePC 1).charge 2)

end Sys2Proof.Machine
end

