-- ==== Sys2Proof/Machine/Store.lean ====
section
/-! DEFINITION. Store to zero page: `STA`, `STX`, `STY` (spec/42_store_zero_page.md). -/

namespace Sys2Proof.Machine

/-- `STA zp` (R165). -/
def execSta (zp : Byte) (s : State) : Host.Outcome State Fault Refusal :=
  .next ((memWrite (s.advancePC 2) (zeroPage zp) s.a).charge 3)

/-- `STX zp` (R166). -/
def execStx (zp : Byte) (s : State) : Host.Outcome State Fault Refusal :=
  .next ((memWrite (s.advancePC 2) (zeroPage zp) s.x).charge 3)

/-- `STY zp` (R167). -/
def execSty (zp : Byte) (s : State) : Host.Outcome State Fault Refusal :=
  .next ((memWrite (s.advancePC 2) (zeroPage zp) s.y).charge 3)

end Sys2Proof.Machine
end

