-- ==== Sys2Proof/Machine/Transfer.lean ====
section
/-! DEFINITION. Register transfers: `TAX`, `TAY` (spec/43_transfer.md). -/

namespace Sys2Proof.Machine

/-- `TAX` (R175). -/
def execTax (s : State) : Host.Outcome State Fault Refusal :=
  .next ((((s.advancePC 1).setX s.a).setZN s.a).charge 2)

/-- `TAY` (R176). -/
def execTay (s : State) : Host.Outcome State Fault Refusal :=
  .next ((((s.advancePC 1).setY s.a).setZN s.a).charge 2)

end Sys2Proof.Machine
end

