-- ==== Sys2Proof/Machine/Unassigned.lean ====
section
/-! DEFINITION. The 241 unassigned opcodes (spec/30_encoding.md R126, spec/46_unassigned_opcodes.md R200): each
has a meaning of its own over the one shared operation `unassignedStep`. -/

namespace Sys2Proof.Machine

/-- Opcode `0x01` (R200). -/
def execUnassigned01 (s : State) : Host.Outcome State Fault Refusal := unassignedStep s

/-- Opcode `0x02` (R200). -/
def execUnassigned02 (s : State) : Host.Outcome State Fault Refusal := unassignedStep s

/-- Opcode `0x03` (R200). -/
def execUnassigned03 (s : State) : Host.Outcome State Fault Refusal := unassignedStep s

/-- Opcode `0x04` (R200). -/
def execUnassigned04 (s : State) : Host.Outcome State Fault Refusal := unassignedStep s

/-- Opcode `0x05` (R200). -/
def execUnassigned05 (s : State) : Host.Outcome State Fault Refusal := unassignedStep s

/-- Opcode `0x06` (R200). -/
def execUnassigned06 (s : State) : Host.Outcome State Fault Refusal := unassignedStep s

/-- Opcode `0x07` (R200). -/
def execUnassigned07 (s : State) : Host.Outcome State Fault Refusal := unassignedStep s

/-- Opcode `0x08` (R200). -/
def execUnassigned08 (s : State) : Host.Outcome State Fault Refusal := unassignedStep s

/-- Opcode `0x09` (R200). -/
def execUnassigned09 (s : State) : Host.Outcome State Fault Refusal := unassignedStep s

/-- Opcode `0x0A` (R200). -/
def execUnassigned0A (s : State) : Host.Outcome State Fault Refusal := unassignedStep s

/-- Opcode `0x0B` (R200). -/
def execUnassigned0B (s : State) : Host.Outcome State Fault Refusal := unassignedStep s

/-- Opcode `0x0C` (R200). -/
def execUnassigned0C (s : State) : Host.Outcome State Fault Refusal := unassignedStep s

/-- Opcode `0x0D` (R200). -/
def execUnassigned0D (s : State) : Host.Outcome State Fault Refusal := unassignedStep s

/-- Opcode `0x0E` (R200). -/
def execUnassigned0E (s : State) : Host.Outcome State Fault Refusal := unassignedStep s

/-- Opcode `0x0F` (R200). -/
def execUnassigned0F (s : State) : Host.Outcome State Fault Refusal := unassignedStep s

/-- Opcode `0x10` (R200). -/
def execUnassigned10 (s : State) : Host.Outcome State Fault Refusal := unassignedStep s

/-- Opcode `0x11` (R200). -/
def execUnassigned11 (s : State) : Host.Outcome State Fault Refusal := unassignedStep s

/-- Opcode `0x12` (R200). -/
def execUnassigned12 (s : State) : Host.Outcome State Fault Refusal := unassignedStep s

/-- Opcode `0x13` (R200). -/
def execUnassigned13 (s : State) : Host.Outcome State Fault Refusal := unassignedStep s

/-- Opcode `0x14` (R200). -/
def execUnassigned14 (s : State) : Host.Outcome State Fault Refusal := unassignedStep s

/-- Opcode `0x15` (R200). -/
def execUnassigned15 (s : State) : Host.Outcome State Fault Refusal := unassignedStep s

/-- Opcode `0x16` (R200). -/
def execUnassigned16 (s : State) : Host.Outcome State Fault Refusal := unassignedStep s

/-- Opcode `0x17` (R200). -/
def execUnassigned17 (s : State) : Host.Outcome State Fault Refusal := unassignedStep s

/-- Opcode `0x18` (R200). -/
def execUnassigned18 (s : State) : Host.Outcome State Fault Refusal := unassignedStep s

/-- Opcode `0x19` (R200). -/
def execUnassigned19 (s : State) : Host.Outcome State Fault Refusal := unassignedStep s

/-- Opcode `0x1A` (R200). -/
def execUnassigned1A (s : State) : Host.Outcome State Fault Refusal := unassignedStep s

/-- Opcode `0x1B` (R200). -/
def execUnassigned1B (s : State) : Host.Outcome State Fault Refusal := unassignedStep s

/-- Opcode `0x1C` (R200). -/
def execUnassigned1C (s : State) : Host.Outcome State Fault Refusal := unassignedStep s

/-- Opcode `0x1D` (R200). -/
def execUnassigned1D (s : State) : Host.Outcome State Fault Refusal := unassignedStep s

/-- Opcode `0x1E` (R200). -/
def execUnassigned1E (s : State) : Host.Outcome State Fault Refusal := unassignedStep s

/-- Opcode `0x1F` (R200). -/
def execUnassigned1F (s : State) : Host.Outcome State Fault Refusal := unassignedStep s

/-- Opcode `0x20` (R200). -/
def execUnassigned20 (s : State) : Host.Outcome State Fault Refusal := unassignedStep s

/-- Opcode `0x21` (R200). -/
def execUnassigned21 (s : State) : Host.Outcome State Fault Refusal := unassignedStep s

/-- Opcode `0x22` (R200). -/
def execUnassigned22 (s : State) : Host.Outcome State Fault Refusal := unassignedStep s

/-- Opcode `0x23` (R200). -/
def execUnassigned23 (s : State) : Host.Outcome State Fault Refusal := unassignedStep s

/-- Opcode `0x24` (R200). -/
def execUnassigned24 (s : State) : Host.Outcome State Fault Refusal := unassignedStep s

/-- Opcode `0x25` (R200). -/
def execUnassigned25 (s : State) : Host.Outcome State Fault Refusal := unassignedStep s

/-- Opcode `0x26` (R200). -/
def execUnassigned26 (s : State) : Host.Outcome State Fault Refusal := unassignedStep s

/-- Opcode `0x27` (R200). -/
def execUnassigned27 (s : State) : Host.Outcome State Fault Refusal := unassignedStep s

/-- Opcode `0x28` (R200). -/
def execUnassigned28 (s : State) : Host.Outcome State Fault Refusal := unassignedStep s

/-- Opcode `0x29` (R200). -/
def execUnassigned29 (s : State) : Host.Outcome State Fault Refusal := unassignedStep s

/-- Opcode `0x2A` (R200). -/
def execUnassigned2A (s : State) : Host.Outcome State Fault Refusal := unassignedStep s

/-- Opcode `0x2B` (R200). -/
def execUnassigned2B (s : State) : Host.Outcome State Fault Refusal := unassignedStep s

/-- Opcode `0x2C` (R200). -/
def execUnassigned2C (s : State) : Host.Outcome State Fault Refusal := unassignedStep s

/-- Opcode `0x2D` (R200). -/
def execUnassigned2D (s : State) : Host.Outcome State Fault Refusal := unassignedStep s

/-- Opcode `0x2E` (R200). -/
def execUnassigned2E (s : State) : Host.Outcome State Fault Refusal := unassignedStep s

/-- Opcode `0x2F` (R200). -/
def execUnassigned2F (s : State) : Host.Outcome State Fault Refusal := unassignedStep s

/-- Opcode `0x30` (R200). -/
def execUnassigned30 (s : State) : Host.Outcome State Fault Refusal := unassignedStep s

/-- Opcode `0x31` (R200). -/
def execUnassigned31 (s : State) : Host.Outcome State Fault Refusal := unassignedStep s

/-- Opcode `0x32` (R200). -/
def execUnassigned32 (s : State) : Host.Outcome State Fault Refusal := unassignedStep s

/-- Opcode `0x33` (R200). -/
def execUnassigned33 (s : State) : Host.Outcome State Fault Refusal := unassignedStep s

/-- Opcode `0x34` (R200). -/
def execUnassigned34 (s : State) : Host.Outcome State Fault Refusal := unassignedStep s

/-- Opcode `0x35` (R200). -/
def execUnassigned35 (s : State) : Host.Outcome State Fault Refusal := unassignedStep s

/-- Opcode `0x36` (R200). -/
def execUnassigned36 (s : State) : Host.Outcome State Fault Refusal := unassignedStep s

/-- Opcode `0x37` (R200). -/
def execUnassigned37 (s : State) : Host.Outcome State Fault Refusal := unassignedStep s

/-- Opcode `0x38` (R200). -/
def execUnassigned38 (s : State) : Host.Outcome State Fault Refusal := unassignedStep s

/-- Opcode `0x39` (R200). -/
def execUnassigned39 (s : State) : Host.Outcome State Fault Refusal := unassignedStep s

/-- Opcode `0x3A` (R200). -/
def execUnassigned3A (s : State) : Host.Outcome State Fault Refusal := unassignedStep s

/-- Opcode `0x3B` (R200). -/
def execUnassigned3B (s : State) : Host.Outcome State Fault Refusal := unassignedStep s

/-- Opcode `0x3C` (R200). -/
def execUnassigned3C (s : State) : Host.Outcome State Fault Refusal := unassignedStep s

/-- Opcode `0x3D` (R200). -/
def execUnassigned3D (s : State) : Host.Outcome State Fault Refusal := unassignedStep s

/-- Opcode `0x3E` (R200). -/
def execUnassigned3E (s : State) : Host.Outcome State Fault Refusal := unassignedStep s

/-- Opcode `0x3F` (R200). -/
def execUnassigned3F (s : State) : Host.Outcome State Fault Refusal := unassignedStep s

/-- Opcode `0x40` (R200). -/
def execUnassigned40 (s : State) : Host.Outcome State Fault Refusal := unassignedStep s

/-- Opcode `0x41` (R200). -/
def execUnassigned41 (s : State) : Host.Outcome State Fault Refusal := unassignedStep s

/-- Opcode `0x42` (R200). -/
def execUnassigned42 (s : State) : Host.Outcome State Fault Refusal := unassignedStep s

/-- Opcode `0x43` (R200). -/
def execUnassigned43 (s : State) : Host.Outcome State Fault Refusal := unassignedStep s

/-- Opcode `0x44` (R200). -/
def execUnassigned44 (s : State) : Host.Outcome State Fault Refusal := unassignedStep s

/-- Opcode `0x45` (R200). -/
def execUnassigned45 (s : State) : Host.Outcome State Fault Refusal := unassignedStep s

/-- Opcode `0x46` (R200). -/
def execUnassigned46 (s : State) : Host.Outcome State Fault Refusal := unassignedStep s

/-- Opcode `0x47` (R200). -/
def execUnassigned47 (s : State) : Host.Outcome State Fault Refusal := unassignedStep s

/-- Opcode `0x48` (R200). -/
def execUnassigned48 (s : State) : Host.Outcome State Fault Refusal := unassignedStep s

/-- Opcode `0x49` (R200). -/
def execUnassigned49 (s : State) : Host.Outcome State Fault Refusal := unassignedStep s

/-- Opcode `0x4A` (R200). -/
def execUnassigned4A (s : State) : Host.Outcome State Fault Refusal := unassignedStep s

/-- Opcode `0x4B` (R200). -/
def execUnassigned4B (s : State) : Host.Outcome State Fault Refusal := unassignedStep s

/-- Opcode `0x4D` (R200). -/
def execUnassigned4D (s : State) : Host.Outcome State Fault Refusal := unassignedStep s

/-- Opcode `0x4E` (R200). -/
def execUnassigned4E (s : State) : Host.Outcome State Fault Refusal := unassignedStep s

/-- Opcode `0x4F` (R200). -/
def execUnassigned4F (s : State) : Host.Outcome State Fault Refusal := unassignedStep s

/-- Opcode `0x50` (R200). -/
def execUnassigned50 (s : State) : Host.Outcome State Fault Refusal := unassignedStep s

/-- Opcode `0x51` (R200). -/
def execUnassigned51 (s : State) : Host.Outcome State Fault Refusal := unassignedStep s

/-- Opcode `0x52` (R200). -/
def execUnassigned52 (s : State) : Host.Outcome State Fault Refusal := unassignedStep s

/-- Opcode `0x53` (R200). -/
def execUnassigned53 (s : State) : Host.Outcome State Fault Refusal := unassignedStep s

/-- Opcode `0x54` (R200). -/
def execUnassigned54 (s : State) : Host.Outcome State Fault Refusal := unassignedStep s

/-- Opcode `0x55` (R200). -/
def execUnassigned55 (s : State) : Host.Outcome State Fault Refusal := unassignedStep s

/-- Opcode `0x56` (R200). -/
def execUnassigned56 (s : State) : Host.Outcome State Fault Refusal := unassignedStep s

/-- Opcode `0x57` (R200). -/
def execUnassigned57 (s : State) : Host.Outcome State Fault Refusal := unassignedStep s

/-- Opcode `0x58` (R200). -/
def execUnassigned58 (s : State) : Host.Outcome State Fault Refusal := unassignedStep s

/-- Opcode `0x59` (R200). -/
def execUnassigned59 (s : State) : Host.Outcome State Fault Refusal := unassignedStep s

/-- Opcode `0x5A` (R200). -/
def execUnassigned5A (s : State) : Host.Outcome State Fault Refusal := unassignedStep s

/-- Opcode `0x5B` (R200). -/
def execUnassigned5B (s : State) : Host.Outcome State Fault Refusal := unassignedStep s

/-- Opcode `0x5C` (R200). -/
def execUnassigned5C (s : State) : Host.Outcome State Fault Refusal := unassignedStep s

/-- Opcode `0x5D` (R200). -/
def execUnassigned5D (s : State) : Host.Outcome State Fault Refusal := unassignedStep s

/-- Opcode `0x5E` (R200). -/
def execUnassigned5E (s : State) : Host.Outcome State Fault Refusal := unassignedStep s

/-- Opcode `0x5F` (R200). -/
def execUnassigned5F (s : State) : Host.Outcome State Fault Refusal := unassignedStep s

/-- Opcode `0x60` (R200). -/
def execUnassigned60 (s : State) : Host.Outcome State Fault Refusal := unassignedStep s

/-- Opcode `0x61` (R200). -/
def execUnassigned61 (s : State) : Host.Outcome State Fault Refusal := unassignedStep s

/-- Opcode `0x62` (R200). -/
def execUnassigned62 (s : State) : Host.Outcome State Fault Refusal := unassignedStep s

/-- Opcode `0x63` (R200). -/
def execUnassigned63 (s : State) : Host.Outcome State Fault Refusal := unassignedStep s

/-- Opcode `0x64` (R200). -/
def execUnassigned64 (s : State) : Host.Outcome State Fault Refusal := unassignedStep s

/-- Opcode `0x65` (R200). -/
def execUnassigned65 (s : State) : Host.Outcome State Fault Refusal := unassignedStep s

/-- Opcode `0x66` (R200). -/
def execUnassigned66 (s : State) : Host.Outcome State Fault Refusal := unassignedStep s

/-- Opcode `0x67` (R200). -/
def execUnassigned67 (s : State) : Host.Outcome State Fault Refusal := unassignedStep s

/-- Opcode `0x68` (R200). -/
def execUnassigned68 (s : State) : Host.Outcome State Fault Refusal := unassignedStep s

/-- Opcode `0x69` (R200). -/
def execUnassigned69 (s : State) : Host.Outcome State Fault Refusal := unassignedStep s

/-- Opcode `0x6A` (R200). -/
def execUnassigned6A (s : State) : Host.Outcome State Fault Refusal := unassignedStep s

/-- Opcode `0x6B` (R200). -/
def execUnassigned6B (s : State) : Host.Outcome State Fault Refusal := unassignedStep s

/-- Opcode `0x6C` (R200). -/
def execUnassigned6C (s : State) : Host.Outcome State Fault Refusal := unassignedStep s

/-- Opcode `0x6D` (R200). -/
def execUnassigned6D (s : State) : Host.Outcome State Fault Refusal := unassignedStep s

/-- Opcode `0x6E` (R200). -/
def execUnassigned6E (s : State) : Host.Outcome State Fault Refusal := unassignedStep s

/-- Opcode `0x6F` (R200). -/
def execUnassigned6F (s : State) : Host.Outcome State Fault Refusal := unassignedStep s

/-- Opcode `0x70` (R200). -/
def execUnassigned70 (s : State) : Host.Outcome State Fault Refusal := unassignedStep s

/-- Opcode `0x71` (R200). -/
def execUnassigned71 (s : State) : Host.Outcome State Fault Refusal := unassignedStep s

/-- Opcode `0x72` (R200). -/
def execUnassigned72 (s : State) : Host.Outcome State Fault Refusal := unassignedStep s

/-- Opcode `0x73` (R200). -/
def execUnassigned73 (s : State) : Host.Outcome State Fault Refusal := unassignedStep s

/-- Opcode `0x74` (R200). -/
def execUnassigned74 (s : State) : Host.Outcome State Fault Refusal := unassignedStep s

/-- Opcode `0x75` (R200). -/
def execUnassigned75 (s : State) : Host.Outcome State Fault Refusal := unassignedStep s

/-- Opcode `0x76` (R200). -/
def execUnassigned76 (s : State) : Host.Outcome State Fault Refusal := unassignedStep s

/-- Opcode `0x77` (R200). -/
def execUnassigned77 (s : State) : Host.Outcome State Fault Refusal := unassignedStep s

/-- Opcode `0x78` (R200). -/
def execUnassigned78 (s : State) : Host.Outcome State Fault Refusal := unassignedStep s

/-- Opcode `0x79` (R200). -/
def execUnassigned79 (s : State) : Host.Outcome State Fault Refusal := unassignedStep s

/-- Opcode `0x7A` (R200). -/
def execUnassigned7A (s : State) : Host.Outcome State Fault Refusal := unassignedStep s

/-- Opcode `0x7B` (R200). -/
def execUnassigned7B (s : State) : Host.Outcome State Fault Refusal := unassignedStep s

/-- Opcode `0x7C` (R200). -/
def execUnassigned7C (s : State) : Host.Outcome State Fault Refusal := unassignedStep s

/-- Opcode `0x7D` (R200). -/
def execUnassigned7D (s : State) : Host.Outcome State Fault Refusal := unassignedStep s

/-- Opcode `0x7E` (R200). -/
def execUnassigned7E (s : State) : Host.Outcome State Fault Refusal := unassignedStep s

/-- Opcode `0x7F` (R200). -/
def execUnassigned7F (s : State) : Host.Outcome State Fault Refusal := unassignedStep s

/-- Opcode `0x80` (R200). -/
def execUnassigned80 (s : State) : Host.Outcome State Fault Refusal := unassignedStep s

/-- Opcode `0x81` (R200). -/
def execUnassigned81 (s : State) : Host.Outcome State Fault Refusal := unassignedStep s

/-- Opcode `0x82` (R200). -/
def execUnassigned82 (s : State) : Host.Outcome State Fault Refusal := unassignedStep s

/-- Opcode `0x83` (R200). -/
def execUnassigned83 (s : State) : Host.Outcome State Fault Refusal := unassignedStep s

/-- Opcode `0x87` (R200). -/
def execUnassigned87 (s : State) : Host.Outcome State Fault Refusal := unassignedStep s

/-- Opcode `0x89` (R200). -/
def execUnassigned89 (s : State) : Host.Outcome State Fault Refusal := unassignedStep s

/-- Opcode `0x8A` (R200). -/
def execUnassigned8A (s : State) : Host.Outcome State Fault Refusal := unassignedStep s

/-- Opcode `0x8B` (R200). -/
def execUnassigned8B (s : State) : Host.Outcome State Fault Refusal := unassignedStep s

/-- Opcode `0x8C` (R200). -/
def execUnassigned8C (s : State) : Host.Outcome State Fault Refusal := unassignedStep s

/-- Opcode `0x8D` (R200). -/
def execUnassigned8D (s : State) : Host.Outcome State Fault Refusal := unassignedStep s

/-- Opcode `0x8E` (R200). -/
def execUnassigned8E (s : State) : Host.Outcome State Fault Refusal := unassignedStep s

/-- Opcode `0x8F` (R200). -/
def execUnassigned8F (s : State) : Host.Outcome State Fault Refusal := unassignedStep s

/-- Opcode `0x90` (R200). -/
def execUnassigned90 (s : State) : Host.Outcome State Fault Refusal := unassignedStep s

/-- Opcode `0x91` (R200). -/
def execUnassigned91 (s : State) : Host.Outcome State Fault Refusal := unassignedStep s

/-- Opcode `0x92` (R200). -/
def execUnassigned92 (s : State) : Host.Outcome State Fault Refusal := unassignedStep s

/-- Opcode `0x93` (R200). -/
def execUnassigned93 (s : State) : Host.Outcome State Fault Refusal := unassignedStep s

/-- Opcode `0x94` (R200). -/
def execUnassigned94 (s : State) : Host.Outcome State Fault Refusal := unassignedStep s

/-- Opcode `0x95` (R200). -/
def execUnassigned95 (s : State) : Host.Outcome State Fault Refusal := unassignedStep s

/-- Opcode `0x96` (R200). -/
def execUnassigned96 (s : State) : Host.Outcome State Fault Refusal := unassignedStep s

/-- Opcode `0x97` (R200). -/
def execUnassigned97 (s : State) : Host.Outcome State Fault Refusal := unassignedStep s

/-- Opcode `0x98` (R200). -/
def execUnassigned98 (s : State) : Host.Outcome State Fault Refusal := unassignedStep s

/-- Opcode `0x99` (R200). -/
def execUnassigned99 (s : State) : Host.Outcome State Fault Refusal := unassignedStep s

/-- Opcode `0x9A` (R200). -/
def execUnassigned9A (s : State) : Host.Outcome State Fault Refusal := unassignedStep s

/-- Opcode `0x9B` (R200). -/
def execUnassigned9B (s : State) : Host.Outcome State Fault Refusal := unassignedStep s

/-- Opcode `0x9C` (R200). -/
def execUnassigned9C (s : State) : Host.Outcome State Fault Refusal := unassignedStep s

/-- Opcode `0x9D` (R200). -/
def execUnassigned9D (s : State) : Host.Outcome State Fault Refusal := unassignedStep s

/-- Opcode `0x9E` (R200). -/
def execUnassigned9E (s : State) : Host.Outcome State Fault Refusal := unassignedStep s

/-- Opcode `0x9F` (R200). -/
def execUnassigned9F (s : State) : Host.Outcome State Fault Refusal := unassignedStep s

/-- Opcode `0xA1` (R200). -/
def execUnassignedA1 (s : State) : Host.Outcome State Fault Refusal := unassignedStep s

/-- Opcode `0xA3` (R200). -/
def execUnassignedA3 (s : State) : Host.Outcome State Fault Refusal := unassignedStep s

/-- Opcode `0xA4` (R200). -/
def execUnassignedA4 (s : State) : Host.Outcome State Fault Refusal := unassignedStep s

/-- Opcode `0xA5` (R200). -/
def execUnassignedA5 (s : State) : Host.Outcome State Fault Refusal := unassignedStep s

/-- Opcode `0xA6` (R200). -/
def execUnassignedA6 (s : State) : Host.Outcome State Fault Refusal := unassignedStep s

/-- Opcode `0xA7` (R200). -/
def execUnassignedA7 (s : State) : Host.Outcome State Fault Refusal := unassignedStep s

/-- Opcode `0xAB` (R200). -/
def execUnassignedAB (s : State) : Host.Outcome State Fault Refusal := unassignedStep s

/-- Opcode `0xAC` (R200). -/
def execUnassignedAC (s : State) : Host.Outcome State Fault Refusal := unassignedStep s

/-- Opcode `0xAD` (R200). -/
def execUnassignedAD (s : State) : Host.Outcome State Fault Refusal := unassignedStep s

/-- Opcode `0xAE` (R200). -/
def execUnassignedAE (s : State) : Host.Outcome State Fault Refusal := unassignedStep s

/-- Opcode `0xAF` (R200). -/
def execUnassignedAF (s : State) : Host.Outcome State Fault Refusal := unassignedStep s

/-- Opcode `0xB0` (R200). -/
def execUnassignedB0 (s : State) : Host.Outcome State Fault Refusal := unassignedStep s

/-- Opcode `0xB1` (R200). -/
def execUnassignedB1 (s : State) : Host.Outcome State Fault Refusal := unassignedStep s

/-- Opcode `0xB2` (R200). -/
def execUnassignedB2 (s : State) : Host.Outcome State Fault Refusal := unassignedStep s

/-- Opcode `0xB3` (R200). -/
def execUnassignedB3 (s : State) : Host.Outcome State Fault Refusal := unassignedStep s

/-- Opcode `0xB4` (R200). -/
def execUnassignedB4 (s : State) : Host.Outcome State Fault Refusal := unassignedStep s

/-- Opcode `0xB5` (R200). -/
def execUnassignedB5 (s : State) : Host.Outcome State Fault Refusal := unassignedStep s

/-- Opcode `0xB6` (R200). -/
def execUnassignedB6 (s : State) : Host.Outcome State Fault Refusal := unassignedStep s

/-- Opcode `0xB7` (R200). -/
def execUnassignedB7 (s : State) : Host.Outcome State Fault Refusal := unassignedStep s

/-- Opcode `0xB8` (R200). -/
def execUnassignedB8 (s : State) : Host.Outcome State Fault Refusal := unassignedStep s

/-- Opcode `0xB9` (R200). -/
def execUnassignedB9 (s : State) : Host.Outcome State Fault Refusal := unassignedStep s

/-- Opcode `0xBA` (R200). -/
def execUnassignedBA (s : State) : Host.Outcome State Fault Refusal := unassignedStep s

/-- Opcode `0xBB` (R200). -/
def execUnassignedBB (s : State) : Host.Outcome State Fault Refusal := unassignedStep s

/-- Opcode `0xBC` (R200). -/
def execUnassignedBC (s : State) : Host.Outcome State Fault Refusal := unassignedStep s

/-- Opcode `0xBD` (R200). -/
def execUnassignedBD (s : State) : Host.Outcome State Fault Refusal := unassignedStep s

/-- Opcode `0xBE` (R200). -/
def execUnassignedBE (s : State) : Host.Outcome State Fault Refusal := unassignedStep s

/-- Opcode `0xBF` (R200). -/
def execUnassignedBF (s : State) : Host.Outcome State Fault Refusal := unassignedStep s

/-- Opcode `0xC0` (R200). -/
def execUnassignedC0 (s : State) : Host.Outcome State Fault Refusal := unassignedStep s

/-- Opcode `0xC1` (R200). -/
def execUnassignedC1 (s : State) : Host.Outcome State Fault Refusal := unassignedStep s

/-- Opcode `0xC2` (R200). -/
def execUnassignedC2 (s : State) : Host.Outcome State Fault Refusal := unassignedStep s

/-- Opcode `0xC3` (R200). -/
def execUnassignedC3 (s : State) : Host.Outcome State Fault Refusal := unassignedStep s

/-- Opcode `0xC4` (R200). -/
def execUnassignedC4 (s : State) : Host.Outcome State Fault Refusal := unassignedStep s

/-- Opcode `0xC5` (R200). -/
def execUnassignedC5 (s : State) : Host.Outcome State Fault Refusal := unassignedStep s

/-- Opcode `0xC6` (R200). -/
def execUnassignedC6 (s : State) : Host.Outcome State Fault Refusal := unassignedStep s

/-- Opcode `0xC7` (R200). -/
def execUnassignedC7 (s : State) : Host.Outcome State Fault Refusal := unassignedStep s

/-- Opcode `0xC9` (R200). -/
def execUnassignedC9 (s : State) : Host.Outcome State Fault Refusal := unassignedStep s

/-- Opcode `0xCB` (R200). -/
def execUnassignedCB (s : State) : Host.Outcome State Fault Refusal := unassignedStep s

/-- Opcode `0xCC` (R200). -/
def execUnassignedCC (s : State) : Host.Outcome State Fault Refusal := unassignedStep s

/-- Opcode `0xCD` (R200). -/
def execUnassignedCD (s : State) : Host.Outcome State Fault Refusal := unassignedStep s

/-- Opcode `0xCE` (R200). -/
def execUnassignedCE (s : State) : Host.Outcome State Fault Refusal := unassignedStep s

/-- Opcode `0xCF` (R200). -/
def execUnassignedCF (s : State) : Host.Outcome State Fault Refusal := unassignedStep s

/-- Opcode `0xD0` (R200). -/
def execUnassignedD0 (s : State) : Host.Outcome State Fault Refusal := unassignedStep s

/-- Opcode `0xD1` (R200). -/
def execUnassignedD1 (s : State) : Host.Outcome State Fault Refusal := unassignedStep s

/-- Opcode `0xD2` (R200). -/
def execUnassignedD2 (s : State) : Host.Outcome State Fault Refusal := unassignedStep s

/-- Opcode `0xD3` (R200). -/
def execUnassignedD3 (s : State) : Host.Outcome State Fault Refusal := unassignedStep s

/-- Opcode `0xD4` (R200). -/
def execUnassignedD4 (s : State) : Host.Outcome State Fault Refusal := unassignedStep s

/-- Opcode `0xD5` (R200). -/
def execUnassignedD5 (s : State) : Host.Outcome State Fault Refusal := unassignedStep s

/-- Opcode `0xD6` (R200). -/
def execUnassignedD6 (s : State) : Host.Outcome State Fault Refusal := unassignedStep s

/-- Opcode `0xD7` (R200). -/
def execUnassignedD7 (s : State) : Host.Outcome State Fault Refusal := unassignedStep s

/-- Opcode `0xD8` (R200). -/
def execUnassignedD8 (s : State) : Host.Outcome State Fault Refusal := unassignedStep s

/-- Opcode `0xD9` (R200). -/
def execUnassignedD9 (s : State) : Host.Outcome State Fault Refusal := unassignedStep s

/-- Opcode `0xDA` (R200). -/
def execUnassignedDA (s : State) : Host.Outcome State Fault Refusal := unassignedStep s

/-- Opcode `0xDB` (R200). -/
def execUnassignedDB (s : State) : Host.Outcome State Fault Refusal := unassignedStep s

/-- Opcode `0xDC` (R200). -/
def execUnassignedDC (s : State) : Host.Outcome State Fault Refusal := unassignedStep s

/-- Opcode `0xDD` (R200). -/
def execUnassignedDD (s : State) : Host.Outcome State Fault Refusal := unassignedStep s

/-- Opcode `0xDE` (R200). -/
def execUnassignedDE (s : State) : Host.Outcome State Fault Refusal := unassignedStep s

/-- Opcode `0xDF` (R200). -/
def execUnassignedDF (s : State) : Host.Outcome State Fault Refusal := unassignedStep s

/-- Opcode `0xE0` (R200). -/
def execUnassignedE0 (s : State) : Host.Outcome State Fault Refusal := unassignedStep s

/-- Opcode `0xE1` (R200). -/
def execUnassignedE1 (s : State) : Host.Outcome State Fault Refusal := unassignedStep s

/-- Opcode `0xE2` (R200). -/
def execUnassignedE2 (s : State) : Host.Outcome State Fault Refusal := unassignedStep s

/-- Opcode `0xE3` (R200). -/
def execUnassignedE3 (s : State) : Host.Outcome State Fault Refusal := unassignedStep s

/-- Opcode `0xE4` (R200). -/
def execUnassignedE4 (s : State) : Host.Outcome State Fault Refusal := unassignedStep s

/-- Opcode `0xE5` (R200). -/
def execUnassignedE5 (s : State) : Host.Outcome State Fault Refusal := unassignedStep s

/-- Opcode `0xE6` (R200). -/
def execUnassignedE6 (s : State) : Host.Outcome State Fault Refusal := unassignedStep s

/-- Opcode `0xE7` (R200). -/
def execUnassignedE7 (s : State) : Host.Outcome State Fault Refusal := unassignedStep s

/-- Opcode `0xE9` (R200). -/
def execUnassignedE9 (s : State) : Host.Outcome State Fault Refusal := unassignedStep s

/-- Opcode `0xEB` (R200). -/
def execUnassignedEB (s : State) : Host.Outcome State Fault Refusal := unassignedStep s

/-- Opcode `0xEC` (R200). -/
def execUnassignedEC (s : State) : Host.Outcome State Fault Refusal := unassignedStep s

/-- Opcode `0xED` (R200). -/
def execUnassignedED (s : State) : Host.Outcome State Fault Refusal := unassignedStep s

/-- Opcode `0xEE` (R200). -/
def execUnassignedEE (s : State) : Host.Outcome State Fault Refusal := unassignedStep s

/-- Opcode `0xEF` (R200). -/
def execUnassignedEF (s : State) : Host.Outcome State Fault Refusal := unassignedStep s

/-- Opcode `0xF0` (R200). -/
def execUnassignedF0 (s : State) : Host.Outcome State Fault Refusal := unassignedStep s

/-- Opcode `0xF1` (R200). -/
def execUnassignedF1 (s : State) : Host.Outcome State Fault Refusal := unassignedStep s

/-- Opcode `0xF2` (R200). -/
def execUnassignedF2 (s : State) : Host.Outcome State Fault Refusal := unassignedStep s

/-- Opcode `0xF3` (R200). -/
def execUnassignedF3 (s : State) : Host.Outcome State Fault Refusal := unassignedStep s

/-- Opcode `0xF4` (R200). -/
def execUnassignedF4 (s : State) : Host.Outcome State Fault Refusal := unassignedStep s

/-- Opcode `0xF5` (R200). -/
def execUnassignedF5 (s : State) : Host.Outcome State Fault Refusal := unassignedStep s

/-- Opcode `0xF6` (R200). -/
def execUnassignedF6 (s : State) : Host.Outcome State Fault Refusal := unassignedStep s

/-- Opcode `0xF7` (R200). -/
def execUnassignedF7 (s : State) : Host.Outcome State Fault Refusal := unassignedStep s

/-- Opcode `0xF8` (R200). -/
def execUnassignedF8 (s : State) : Host.Outcome State Fault Refusal := unassignedStep s

/-- Opcode `0xF9` (R200). -/
def execUnassignedF9 (s : State) : Host.Outcome State Fault Refusal := unassignedStep s

/-- Opcode `0xFA` (R200). -/
def execUnassignedFA (s : State) : Host.Outcome State Fault Refusal := unassignedStep s

/-- Opcode `0xFB` (R200). -/
def execUnassignedFB (s : State) : Host.Outcome State Fault Refusal := unassignedStep s

/-- Opcode `0xFC` (R200). -/
def execUnassignedFC (s : State) : Host.Outcome State Fault Refusal := unassignedStep s

/-- Opcode `0xFD` (R200). -/
def execUnassignedFD (s : State) : Host.Outcome State Fault Refusal := unassignedStep s

/-- Opcode `0xFE` (R200). -/
def execUnassignedFE (s : State) : Host.Outcome State Fault Refusal := unassignedStep s

/-- Opcode `0xFF` (R200). -/
def execUnassignedFF (s : State) : Host.Outcome State Fault Refusal := unassignedStep s

end Sys2Proof.Machine
end

