-- ==== Sys2Proof/Machine/Dispatch.lean ====
section
/-! DEFINITION. The dispatch of spec/30_encoding.md R132: one arm per instruction, in opcode order. -/

namespace Sys2Proof.Machine

def exec (i : Instr) (s : State) : Host.Outcome State Fault Refusal :=
  match i with
  | .brk => Sys2Proof.Machine.execBrk s
  | .unassigned01 => Sys2Proof.Machine.execUnassigned01 s
  | .unassigned02 => Sys2Proof.Machine.execUnassigned02 s
  | .unassigned03 => Sys2Proof.Machine.execUnassigned03 s
  | .unassigned04 => Sys2Proof.Machine.execUnassigned04 s
  | .unassigned05 => Sys2Proof.Machine.execUnassigned05 s
  | .unassigned06 => Sys2Proof.Machine.execUnassigned06 s
  | .unassigned07 => Sys2Proof.Machine.execUnassigned07 s
  | .unassigned08 => Sys2Proof.Machine.execUnassigned08 s
  | .unassigned09 => Sys2Proof.Machine.execUnassigned09 s
  | .unassigned0A => Sys2Proof.Machine.execUnassigned0A s
  | .unassigned0B => Sys2Proof.Machine.execUnassigned0B s
  | .unassigned0C => Sys2Proof.Machine.execUnassigned0C s
  | .unassigned0D => Sys2Proof.Machine.execUnassigned0D s
  | .unassigned0E => Sys2Proof.Machine.execUnassigned0E s
  | .unassigned0F => Sys2Proof.Machine.execUnassigned0F s
  | .unassigned10 => Sys2Proof.Machine.execUnassigned10 s
  | .unassigned11 => Sys2Proof.Machine.execUnassigned11 s
  | .unassigned12 => Sys2Proof.Machine.execUnassigned12 s
  | .unassigned13 => Sys2Proof.Machine.execUnassigned13 s
  | .unassigned14 => Sys2Proof.Machine.execUnassigned14 s
  | .unassigned15 => Sys2Proof.Machine.execUnassigned15 s
  | .unassigned16 => Sys2Proof.Machine.execUnassigned16 s
  | .unassigned17 => Sys2Proof.Machine.execUnassigned17 s
  | .unassigned18 => Sys2Proof.Machine.execUnassigned18 s
  | .unassigned19 => Sys2Proof.Machine.execUnassigned19 s
  | .unassigned1A => Sys2Proof.Machine.execUnassigned1A s
  | .unassigned1B => Sys2Proof.Machine.execUnassigned1B s
  | .unassigned1C => Sys2Proof.Machine.execUnassigned1C s
  | .unassigned1D => Sys2Proof.Machine.execUnassigned1D s
  | .unassigned1E => Sys2Proof.Machine.execUnassigned1E s
  | .unassigned1F => Sys2Proof.Machine.execUnassigned1F s
  | .unassigned20 => Sys2Proof.Machine.execUnassigned20 s
  | .unassigned21 => Sys2Proof.Machine.execUnassigned21 s
  | .unassigned22 => Sys2Proof.Machine.execUnassigned22 s
  | .unassigned23 => Sys2Proof.Machine.execUnassigned23 s
  | .unassigned24 => Sys2Proof.Machine.execUnassigned24 s
  | .unassigned25 => Sys2Proof.Machine.execUnassigned25 s
  | .unassigned26 => Sys2Proof.Machine.execUnassigned26 s
  | .unassigned27 => Sys2Proof.Machine.execUnassigned27 s
  | .unassigned28 => Sys2Proof.Machine.execUnassigned28 s
  | .unassigned29 => Sys2Proof.Machine.execUnassigned29 s
  | .unassigned2A => Sys2Proof.Machine.execUnassigned2A s
  | .unassigned2B => Sys2Proof.Machine.execUnassigned2B s
  | .unassigned2C => Sys2Proof.Machine.execUnassigned2C s
  | .unassigned2D => Sys2Proof.Machine.execUnassigned2D s
  | .unassigned2E => Sys2Proof.Machine.execUnassigned2E s
  | .unassigned2F => Sys2Proof.Machine.execUnassigned2F s
  | .unassigned30 => Sys2Proof.Machine.execUnassigned30 s
  | .unassigned31 => Sys2Proof.Machine.execUnassigned31 s
  | .unassigned32 => Sys2Proof.Machine.execUnassigned32 s
  | .unassigned33 => Sys2Proof.Machine.execUnassigned33 s
  | .unassigned34 => Sys2Proof.Machine.execUnassigned34 s
  | .unassigned35 => Sys2Proof.Machine.execUnassigned35 s
  | .unassigned36 => Sys2Proof.Machine.execUnassigned36 s
  | .unassigned37 => Sys2Proof.Machine.execUnassigned37 s
  | .unassigned38 => Sys2Proof.Machine.execUnassigned38 s
  | .unassigned39 => Sys2Proof.Machine.execUnassigned39 s
  | .unassigned3A => Sys2Proof.Machine.execUnassigned3A s
  | .unassigned3B => Sys2Proof.Machine.execUnassigned3B s
  | .unassigned3C => Sys2Proof.Machine.execUnassigned3C s
  | .unassigned3D => Sys2Proof.Machine.execUnassigned3D s
  | .unassigned3E => Sys2Proof.Machine.execUnassigned3E s
  | .unassigned3F => Sys2Proof.Machine.execUnassigned3F s
  | .unassigned40 => Sys2Proof.Machine.execUnassigned40 s
  | .unassigned41 => Sys2Proof.Machine.execUnassigned41 s
  | .unassigned42 => Sys2Proof.Machine.execUnassigned42 s
  | .unassigned43 => Sys2Proof.Machine.execUnassigned43 s
  | .unassigned44 => Sys2Proof.Machine.execUnassigned44 s
  | .unassigned45 => Sys2Proof.Machine.execUnassigned45 s
  | .unassigned46 => Sys2Proof.Machine.execUnassigned46 s
  | .unassigned47 => Sys2Proof.Machine.execUnassigned47 s
  | .unassigned48 => Sys2Proof.Machine.execUnassigned48 s
  | .unassigned49 => Sys2Proof.Machine.execUnassigned49 s
  | .unassigned4A => Sys2Proof.Machine.execUnassigned4A s
  | .unassigned4B => Sys2Proof.Machine.execUnassigned4B s
  | .jmp lo hi => Sys2Proof.Machine.execJmp lo hi s
  | .unassigned4D => Sys2Proof.Machine.execUnassigned4D s
  | .unassigned4E => Sys2Proof.Machine.execUnassigned4E s
  | .unassigned4F => Sys2Proof.Machine.execUnassigned4F s
  | .unassigned50 => Sys2Proof.Machine.execUnassigned50 s
  | .unassigned51 => Sys2Proof.Machine.execUnassigned51 s
  | .unassigned52 => Sys2Proof.Machine.execUnassigned52 s
  | .unassigned53 => Sys2Proof.Machine.execUnassigned53 s
  | .unassigned54 => Sys2Proof.Machine.execUnassigned54 s
  | .unassigned55 => Sys2Proof.Machine.execUnassigned55 s
  | .unassigned56 => Sys2Proof.Machine.execUnassigned56 s
  | .unassigned57 => Sys2Proof.Machine.execUnassigned57 s
  | .unassigned58 => Sys2Proof.Machine.execUnassigned58 s
  | .unassigned59 => Sys2Proof.Machine.execUnassigned59 s
  | .unassigned5A => Sys2Proof.Machine.execUnassigned5A s
  | .unassigned5B => Sys2Proof.Machine.execUnassigned5B s
  | .unassigned5C => Sys2Proof.Machine.execUnassigned5C s
  | .unassigned5D => Sys2Proof.Machine.execUnassigned5D s
  | .unassigned5E => Sys2Proof.Machine.execUnassigned5E s
  | .unassigned5F => Sys2Proof.Machine.execUnassigned5F s
  | .unassigned60 => Sys2Proof.Machine.execUnassigned60 s
  | .unassigned61 => Sys2Proof.Machine.execUnassigned61 s
  | .unassigned62 => Sys2Proof.Machine.execUnassigned62 s
  | .unassigned63 => Sys2Proof.Machine.execUnassigned63 s
  | .unassigned64 => Sys2Proof.Machine.execUnassigned64 s
  | .unassigned65 => Sys2Proof.Machine.execUnassigned65 s
  | .unassigned66 => Sys2Proof.Machine.execUnassigned66 s
  | .unassigned67 => Sys2Proof.Machine.execUnassigned67 s
  | .unassigned68 => Sys2Proof.Machine.execUnassigned68 s
  | .unassigned69 => Sys2Proof.Machine.execUnassigned69 s
  | .unassigned6A => Sys2Proof.Machine.execUnassigned6A s
  | .unassigned6B => Sys2Proof.Machine.execUnassigned6B s
  | .unassigned6C => Sys2Proof.Machine.execUnassigned6C s
  | .unassigned6D => Sys2Proof.Machine.execUnassigned6D s
  | .unassigned6E => Sys2Proof.Machine.execUnassigned6E s
  | .unassigned6F => Sys2Proof.Machine.execUnassigned6F s
  | .unassigned70 => Sys2Proof.Machine.execUnassigned70 s
  | .unassigned71 => Sys2Proof.Machine.execUnassigned71 s
  | .unassigned72 => Sys2Proof.Machine.execUnassigned72 s
  | .unassigned73 => Sys2Proof.Machine.execUnassigned73 s
  | .unassigned74 => Sys2Proof.Machine.execUnassigned74 s
  | .unassigned75 => Sys2Proof.Machine.execUnassigned75 s
  | .unassigned76 => Sys2Proof.Machine.execUnassigned76 s
  | .unassigned77 => Sys2Proof.Machine.execUnassigned77 s
  | .unassigned78 => Sys2Proof.Machine.execUnassigned78 s
  | .unassigned79 => Sys2Proof.Machine.execUnassigned79 s
  | .unassigned7A => Sys2Proof.Machine.execUnassigned7A s
  | .unassigned7B => Sys2Proof.Machine.execUnassigned7B s
  | .unassigned7C => Sys2Proof.Machine.execUnassigned7C s
  | .unassigned7D => Sys2Proof.Machine.execUnassigned7D s
  | .unassigned7E => Sys2Proof.Machine.execUnassigned7E s
  | .unassigned7F => Sys2Proof.Machine.execUnassigned7F s
  | .unassigned80 => Sys2Proof.Machine.execUnassigned80 s
  | .unassigned81 => Sys2Proof.Machine.execUnassigned81 s
  | .unassigned82 => Sys2Proof.Machine.execUnassigned82 s
  | .unassigned83 => Sys2Proof.Machine.execUnassigned83 s
  | .sty zp => Sys2Proof.Machine.execSty zp s
  | .sta zp => Sys2Proof.Machine.execSta zp s
  | .stx zp => Sys2Proof.Machine.execStx zp s
  | .unassigned87 => Sys2Proof.Machine.execUnassigned87 s
  | .dey => Sys2Proof.Machine.execDey s
  | .unassigned89 => Sys2Proof.Machine.execUnassigned89 s
  | .unassigned8A => Sys2Proof.Machine.execUnassigned8A s
  | .unassigned8B => Sys2Proof.Machine.execUnassigned8B s
  | .unassigned8C => Sys2Proof.Machine.execUnassigned8C s
  | .unassigned8D => Sys2Proof.Machine.execUnassigned8D s
  | .unassigned8E => Sys2Proof.Machine.execUnassigned8E s
  | .unassigned8F => Sys2Proof.Machine.execUnassigned8F s
  | .unassigned90 => Sys2Proof.Machine.execUnassigned90 s
  | .unassigned91 => Sys2Proof.Machine.execUnassigned91 s
  | .unassigned92 => Sys2Proof.Machine.execUnassigned92 s
  | .unassigned93 => Sys2Proof.Machine.execUnassigned93 s
  | .unassigned94 => Sys2Proof.Machine.execUnassigned94 s
  | .unassigned95 => Sys2Proof.Machine.execUnassigned95 s
  | .unassigned96 => Sys2Proof.Machine.execUnassigned96 s
  | .unassigned97 => Sys2Proof.Machine.execUnassigned97 s
  | .unassigned98 => Sys2Proof.Machine.execUnassigned98 s
  | .unassigned99 => Sys2Proof.Machine.execUnassigned99 s
  | .unassigned9A => Sys2Proof.Machine.execUnassigned9A s
  | .unassigned9B => Sys2Proof.Machine.execUnassigned9B s
  | .unassigned9C => Sys2Proof.Machine.execUnassigned9C s
  | .unassigned9D => Sys2Proof.Machine.execUnassigned9D s
  | .unassigned9E => Sys2Proof.Machine.execUnassigned9E s
  | .unassigned9F => Sys2Proof.Machine.execUnassigned9F s
  | .ldy imm => Sys2Proof.Machine.execLdy imm s
  | .unassignedA1 => Sys2Proof.Machine.execUnassignedA1 s
  | .ldx imm => Sys2Proof.Machine.execLdx imm s
  | .unassignedA3 => Sys2Proof.Machine.execUnassignedA3 s
  | .unassignedA4 => Sys2Proof.Machine.execUnassignedA4 s
  | .unassignedA5 => Sys2Proof.Machine.execUnassignedA5 s
  | .unassignedA6 => Sys2Proof.Machine.execUnassignedA6 s
  | .unassignedA7 => Sys2Proof.Machine.execUnassignedA7 s
  | .tay => Sys2Proof.Machine.execTay s
  | .lda imm => Sys2Proof.Machine.execLda imm s
  | .tax => Sys2Proof.Machine.execTax s
  | .unassignedAB => Sys2Proof.Machine.execUnassignedAB s
  | .unassignedAC => Sys2Proof.Machine.execUnassignedAC s
  | .unassignedAD => Sys2Proof.Machine.execUnassignedAD s
  | .unassignedAE => Sys2Proof.Machine.execUnassignedAE s
  | .unassignedAF => Sys2Proof.Machine.execUnassignedAF s
  | .unassignedB0 => Sys2Proof.Machine.execUnassignedB0 s
  | .unassignedB1 => Sys2Proof.Machine.execUnassignedB1 s
  | .unassignedB2 => Sys2Proof.Machine.execUnassignedB2 s
  | .unassignedB3 => Sys2Proof.Machine.execUnassignedB3 s
  | .unassignedB4 => Sys2Proof.Machine.execUnassignedB4 s
  | .unassignedB5 => Sys2Proof.Machine.execUnassignedB5 s
  | .unassignedB6 => Sys2Proof.Machine.execUnassignedB6 s
  | .unassignedB7 => Sys2Proof.Machine.execUnassignedB7 s
  | .unassignedB8 => Sys2Proof.Machine.execUnassignedB8 s
  | .unassignedB9 => Sys2Proof.Machine.execUnassignedB9 s
  | .unassignedBA => Sys2Proof.Machine.execUnassignedBA s
  | .unassignedBB => Sys2Proof.Machine.execUnassignedBB s
  | .unassignedBC => Sys2Proof.Machine.execUnassignedBC s
  | .unassignedBD => Sys2Proof.Machine.execUnassignedBD s
  | .unassignedBE => Sys2Proof.Machine.execUnassignedBE s
  | .unassignedBF => Sys2Proof.Machine.execUnassignedBF s
  | .unassignedC0 => Sys2Proof.Machine.execUnassignedC0 s
  | .unassignedC1 => Sys2Proof.Machine.execUnassignedC1 s
  | .unassignedC2 => Sys2Proof.Machine.execUnassignedC2 s
  | .unassignedC3 => Sys2Proof.Machine.execUnassignedC3 s
  | .unassignedC4 => Sys2Proof.Machine.execUnassignedC4 s
  | .unassignedC5 => Sys2Proof.Machine.execUnassignedC5 s
  | .unassignedC6 => Sys2Proof.Machine.execUnassignedC6 s
  | .unassignedC7 => Sys2Proof.Machine.execUnassignedC7 s
  | .iny => Sys2Proof.Machine.execIny s
  | .unassignedC9 => Sys2Proof.Machine.execUnassignedC9 s
  | .dex => Sys2Proof.Machine.execDex s
  | .unassignedCB => Sys2Proof.Machine.execUnassignedCB s
  | .unassignedCC => Sys2Proof.Machine.execUnassignedCC s
  | .unassignedCD => Sys2Proof.Machine.execUnassignedCD s
  | .unassignedCE => Sys2Proof.Machine.execUnassignedCE s
  | .unassignedCF => Sys2Proof.Machine.execUnassignedCF s
  | .unassignedD0 => Sys2Proof.Machine.execUnassignedD0 s
  | .unassignedD1 => Sys2Proof.Machine.execUnassignedD1 s
  | .unassignedD2 => Sys2Proof.Machine.execUnassignedD2 s
  | .unassignedD3 => Sys2Proof.Machine.execUnassignedD3 s
  | .unassignedD4 => Sys2Proof.Machine.execUnassignedD4 s
  | .unassignedD5 => Sys2Proof.Machine.execUnassignedD5 s
  | .unassignedD6 => Sys2Proof.Machine.execUnassignedD6 s
  | .unassignedD7 => Sys2Proof.Machine.execUnassignedD7 s
  | .unassignedD8 => Sys2Proof.Machine.execUnassignedD8 s
  | .unassignedD9 => Sys2Proof.Machine.execUnassignedD9 s
  | .unassignedDA => Sys2Proof.Machine.execUnassignedDA s
  | .unassignedDB => Sys2Proof.Machine.execUnassignedDB s
  | .unassignedDC => Sys2Proof.Machine.execUnassignedDC s
  | .unassignedDD => Sys2Proof.Machine.execUnassignedDD s
  | .unassignedDE => Sys2Proof.Machine.execUnassignedDE s
  | .unassignedDF => Sys2Proof.Machine.execUnassignedDF s
  | .unassignedE0 => Sys2Proof.Machine.execUnassignedE0 s
  | .unassignedE1 => Sys2Proof.Machine.execUnassignedE1 s
  | .unassignedE2 => Sys2Proof.Machine.execUnassignedE2 s
  | .unassignedE3 => Sys2Proof.Machine.execUnassignedE3 s
  | .unassignedE4 => Sys2Proof.Machine.execUnassignedE4 s
  | .unassignedE5 => Sys2Proof.Machine.execUnassignedE5 s
  | .unassignedE6 => Sys2Proof.Machine.execUnassignedE6 s
  | .unassignedE7 => Sys2Proof.Machine.execUnassignedE7 s
  | .inx => Sys2Proof.Machine.execInx s
  | .unassignedE9 => Sys2Proof.Machine.execUnassignedE9 s
  | .nop => Sys2Proof.Machine.execNop s
  | .unassignedEB => Sys2Proof.Machine.execUnassignedEB s
  | .unassignedEC => Sys2Proof.Machine.execUnassignedEC s
  | .unassignedED => Sys2Proof.Machine.execUnassignedED s
  | .unassignedEE => Sys2Proof.Machine.execUnassignedEE s
  | .unassignedEF => Sys2Proof.Machine.execUnassignedEF s
  | .unassignedF0 => Sys2Proof.Machine.execUnassignedF0 s
  | .unassignedF1 => Sys2Proof.Machine.execUnassignedF1 s
  | .unassignedF2 => Sys2Proof.Machine.execUnassignedF2 s
  | .unassignedF3 => Sys2Proof.Machine.execUnassignedF3 s
  | .unassignedF4 => Sys2Proof.Machine.execUnassignedF4 s
  | .unassignedF5 => Sys2Proof.Machine.execUnassignedF5 s
  | .unassignedF6 => Sys2Proof.Machine.execUnassignedF6 s
  | .unassignedF7 => Sys2Proof.Machine.execUnassignedF7 s
  | .unassignedF8 => Sys2Proof.Machine.execUnassignedF8 s
  | .unassignedF9 => Sys2Proof.Machine.execUnassignedF9 s
  | .unassignedFA => Sys2Proof.Machine.execUnassignedFA s
  | .unassignedFB => Sys2Proof.Machine.execUnassignedFB s
  | .unassignedFC => Sys2Proof.Machine.execUnassignedFC s
  | .unassignedFD => Sys2Proof.Machine.execUnassignedFD s
  | .unassignedFE => Sys2Proof.Machine.execUnassignedFE s
  | .unassignedFF => Sys2Proof.Machine.execUnassignedFF s

end Sys2Proof.Machine
end

