-- ==== Sys2Proof/Machine/Fetch.lean ====
section
/-! DEFINITION. Fetching an instruction's bytes through the Bus (spec/30_encoding.md R130), and placing an
instruction where the next step fetches it. -/

namespace Sys2Proof.Machine

/-- Byte `k` of the instruction at `PC`: `PC` has been advanced once per byte before it, wrapping (R130). -/
def fetchByte (c : Cartridge) (s : State) (k : Nat) : Byte := memRead c s (s.pc + BitVec.ofNat 16 k)

/-- The instruction at `PC`: the opcode byte selects the format, which says how many operand bytes are
fetched after it, in increasing address order (R123, R130). -/
def fetchInstr (c : Cartridge) (s : State) : Instr :=
  (formOf (fetchByte c s 0)).build (fun k => fetchByte c s (k + 1))

/-! ### Placing an instruction -/

/-- Whether a byte of storage stands behind an address. -/
def backed (addr : Word) : Bool := busTarget addr.toNat ≠ .unmapped

/-- The cartridge used where none that can run is loaded: one 16 KiB unit of zero bytes, no CHR, mapper 0
(log entry 3). -/
def blankCartridge : Cartridge where
  prgRom := []
  chrRom := []
  mapperId := 0
  prgSize := Config.prgUnit
  chrSize := 0

/-- The cartridge with PRG byte `i` replaced: an image that differs in one byte. -/
def Cartridge.withPrgByte (c : Cartridge) (i : Nat) (v : Byte) : Cartridge :=
  { c with prgRom := c.prgRom.write i v }

/-- The state in which the storage behind an address holds `v`: the Bus's own byte, or the loaded image's. An
address with nothing behind it is left alone. -/
def placeByte (s : State) (addr : Word) (v : Byte) : State :=
  match busTarget addr.toNat with
  | .prg offset => { s with cart := s.cart.map (fun c => c.withPrgByte (offset % c.prgSize) v) }
  | _ => memWrite s addr v

/-- A state that can fetch: RUNNING, with a cartridge that can run, and with storage behind the three bytes
at `PC` (`PC` moves to `0x8000` only where there is none). -/
def readyToFetch (s : State) : State :=
  { s with
    halted := false
    cart := match loadedCart s with
      | .ok c => some c
      | .error _ => some blankCartridge
    pc := if backed s.pc && backed (s.pc + 1) && backed (s.pc + 2) then s.pc else 0x8000 }

/-- The state with the instruction whose bits are `w` stored where the next step fetches it (log entry 3). -/
def placeInstr (s : State) (nbits w : Nat) : State :=
  let r := readyToFetch s
  placeByte (placeByte (placeByte r r.pc (tableByte nbits w 0)) (r.pc + 1) (tableByte nbits w 1))
    (r.pc + 2) (tableByte nbits w 2)

end Sys2Proof.Machine
end

