-- ==== Sys2Proof/Machine/Step.lean ====
section
/-! DEFINITION. The step of the machine: `CPU.step()` (spec/30_encoding.md R132). -/

namespace Sys2Proof.Machine

/-- `CPU.step()` (R132): refused without a cartridge that can run (R49, R69); in HALTED only the bookkeeping
(R129); else the instruction at `PC` runs (R130). -/
def step (s : State) : Host.Outcome State Fault Refusal :=
  match loadedCart s with
  | .error r => .refused r
  | .ok c => if s.halted then .next (haltedStep s) else exec (fetchInstr c s) s

/-- The state with the instruction whose bits are `w` stored where `step` fetches its next instruction. -/
def State.withFetchWord (s : State) (nbits w : Nat) : State := placeInstr s nbits w

end Sys2Proof.Machine
end

