-- ==== Sys2Proof/Machine/Loader.lean ====
section
/-! DEFINITION. The cartridge loader (spec/20_memory.md R85 to R94): a pure function of the file's bytes. -/

namespace Sys2Proof.Machine

/-- The loader's three failures (R88): results returned to the host, no CPU exceptions (R211). -/
inductive LoadError where
  /-- The path does not resolve to a readable file. -/
  | notFound
  /-- The first four bytes are not the magic. -/
  | invalidFormat
  /-- The file ends before the header, the PRG data or the CHR data is complete. -/
  | io
  deriving DecidableEq, Repr

/-- The four bytes `N E S 0x1A` (R85). -/
def inesMagic : List Byte := [0x4E, 0x45, 0x53, 0x1A]

/-- Length of the iNES header (R6, R85). -/
def headerSize : Nat := 16

/-- Byte `i` of the header (R85). -/
def headerByte (file : List Byte) (i : Nat) : Byte := file.getD i 0

/-- `prgSize = header[4] * 16384` (R86). -/
def imagePrgSize (file : List Byte) : Nat := (headerByte file 4).toNat * Config.prgUnit

/-- `chrSize = header[5] * 8192` (R86). -/
def imageChrSize (file : List Byte) : Nat := (headerByte file 5).toNat * Config.chrUnit

/-- `mapperId = (header[6] >> 4) | (header[7] & 0xF0)` (R87). -/
def imageMapperId (file : List Byte) : Byte := (headerByte file 6 >>> 4) ||| (headerByte file 7 &&& 0xF0)

/-- The PRG data of an image: `prgSize` bytes from offset 16 (R85, R86). -/
def imagePrg (file : List Byte) : List Byte := (file.drop headerSize).take (imagePrgSize file)

/-- The CHR data of an image: `chrSize` bytes after the PRG data (R85, R86). -/
def imageChr (file : List Byte) : List Byte :=
  (file.drop (headerSize + imagePrgSize file)).take (imageChrSize file)

/-- The cartridge a complete image holds (R86). -/
def imageCartridge (file : List Byte) : Cartridge where
  prgRom := Memory.ofBytes (imagePrg file)
  chrRom := Memory.ofBytes (imageChr file)
  mapperId := imageMapperId file
  prgSize := imagePrgSize file
  chrSize := imageChrSize file

/-- `load(path)` (R86): `file` is the byte sequence at the path, or none where the path is missing or
unreadable. The order of the checks is R89's. -/
def load : Option (List Byte) → Except LoadError Cartridge
  | none => .error .notFound
  | some file =>
    if file.take 4 ≠ inesMagic then .error .invalidFormat
    else if file.length < headerSize then .error .io
    else if file.length < headerSize + imagePrgSize file + imageChrSize file then .error .io
    else .ok (imageCartridge file)

end Sys2Proof.Machine
end

