-- ==== Sys2Proof/Machine/PictureUnit.lean ====
section
/-! DEFINITION. The PictureUnit: its timing stepper (spec/60_exceptions.md R230) and the frame it draws
(R232). -/

namespace Sys2Proof.Machine

/-- Writes the PictureUnit's counters. -/
def State.setPicture (s : State) (dot scanline frameCount : Nat) : State :=
  { s with dot := dot, scanline := scanline, frameCount := frameCount }

/-- `PictureUnit.step()`, one timing step (R230). That `frameCount` goes up when `scanline` wraps is the
spec's decision D14. -/
def pictureStep (s : State) : State :=
  if s.dot + 1 = 341 then
    if s.scanline + 1 = 262 then s.setPicture 0 0 (s.frameCount + 1)
    else s.setPicture 0 (s.scanline + 1) s.frameCount
  else s.setPicture (s.dot + 1) s.scanline s.frameCount

/-- `n` timing steps. -/
def pictureSteps : Nat → State → State
  | 0, s => s
  | n + 1, s => pictureSteps n (pictureStep s)

/-- `renderFrame(tick)`: the frame buffer `FrameSource(tick)`, a function of the tick alone (R232). It returns
the frame; who stores it is `finishFrame` (R236), and a direct call stores nothing (log entry 22). -/
def renderFrame (tick : Nat) : Memory :=
  Memory.tabulate (Config.frameSource tick) Config.frameBytes 0

end Sys2Proof.Machine
end

