-- ==== Sys2Proof/Machine/Console.lean ====
section
/-! DEFINITION. The Console and the whole host interface (spec/00_scope.md R11): `loadRom`, `reset` and
`stepFrame`, and the calls the document's tests make directly. -/

namespace Sys2Proof.Machine

/-! ### Reset and loadRom -/

/-- `Console.reset()` with cartridge `c` on the Bus (R262). -/
def consoleResetOn (c : Cartridge) (s : State) : State := { cpuReset c s with tick := 0, frameCount := 0 }

/-- The state after a successful load and before the reset that follows it: the new cartridge and a new Bus
whose storage holds `INIT_BUS` (R43, R264). The PictureUnit is kept. -/
def installCart (c : Cartridge) (s : State) : State :=
  { s with cart := some c, cpuRam := [], ppuRegs := [], apuRegs := [] }

/-- What a host call that needs the Bus does: refused before the first successful `loadRom` (R49). -/
def onBus (s : State) (f : Cartridge → State) : Host.Outcome State Fault Refusal :=
  match loadedCart s with
  | .error r => .refused r
  | .ok c => .next (f c)

/-- `CPU.reset()` as a host call (R260, R49). -/
def cpuResetCall (s : State) : Host.Outcome State Fault Refusal := onBus s (fun c => cpuReset c s)

/-- `Console.reset()` as a host call (R262, R49). -/
def consoleReset (s : State) : Host.Outcome State Fault Refusal := onBus s (fun c => consoleResetOn c s)

/-- `Console.loadRom` (R264): a failed load changes nothing and names its error (R265); a cartridge with
`prgSize = 0` is refused (R69). -/
def loadRom (file : Option (List Byte)) (s : State) :
    Host.Outcome (State × Except LoadError Unit) Fault Refusal :=
  match load file with
  | .error e => .next (s, .error e)
  | .ok c =>
    match consoleReset (installCart c s) with
    | .next t => .next (t, .ok ())
    | .fault f => .fault f
    | .refused r => .refused r

/-! ### The frame -/

/-- The body of the frame loop: one CPU step, then three timing steps (R236). -/
def frameBody (s : State) : Host.Outcome State Fault Refusal :=
  match step s with
  | .next t => .next (pictureSteps pictureStepsPerCpuStep t)
  | .fault f => .fault f
  | .refused r => .refused r

/-- The test of the frame loop, made before each step (R236, D15). -/
def frameRuns (target : Nat) (s : State) : Bool := decide (s.cycles < target) && !s.halted

/-- The frame loop. Every step costs at least one cycle, so as many rounds as the budget has cycles are
enough for the test to fail (R238). -/
def frameLoop (target : Nat) : Nat → State → Host.Outcome State Fault Refusal
  | 0, s => .next s
  | n + 1, s =>
    if frameRuns target s then
      match frameBody s with
      | .next t => frameLoop target n t
      | .fault f => .fault f
      | .refused r => .refused r
    else .next s

/-- The end of a frame: `tick` goes up, then the frame of the new tick is drawn (R236, D16). -/
def finishFrame (s : State) : State := { s with tick := s.tick + 1, frameBuffer := renderFrame (s.tick + 1) }

/-- `Console.stepFrame()` (R236, R49). The frame it returns is the new state's `frameBuffer`. -/
def stepFrame (s : State) : Host.Outcome State Fault Refusal :=
  match loadedCart s with
  | .error r => .refused r
  | .ok _ =>
    match frameLoop (s.cycles + Config.frameBudget) Config.frameBudget s with
    | .next t => .next (finishFrame t)
    | .fault f => .fault f
    | .refused r => .refused r

/-! ### Every call of the host -/

/-- The host's calls: those of R11, and `renderFrame`, which R11 does not list and E6 of 95_test_vectors.md
makes (log entry 22). They are serialised, so one call is one transition. -/
inductive Call where
  /-- `Console.loadRom(path)`; none is a path that is missing or unreadable. -/
  | loadRom (file : Option (List Byte))
  /-- `Console.reset()`. -/
  | reset
  /-- `Console.stepFrame()`. -/
  | stepFrame
  /-- `CPU.step()`. -/
  | cpuStep
  /-- `CPU.reset()`. -/
  | cpuReset
  /-- `Bus.read(addr)`. -/
  | busRead (addr : Nat)
  /-- `Bus.write(addr, value)`. -/
  | busWrite (addr value : Nat)
  /-- `PictureUnit.step()`. -/
  | pictureStep
  /-- `PictureUnit.renderFrame(tick)` called directly. It returns the frame and leaves `frameBuffer` as it was:
  R232 calls it pure, while R20 lists `frameBuffer` as written by it. DESIGN CHOICE, log entry 22, unsafe. -/
  | renderFrame (tick : Nat)
  deriving DecidableEq, Repr

/-- What a call returns to the host. -/
inductive Reply where
  /-- Nothing. -/
  | done
  /-- `loadRom`'s success. -/
  | loaded
  /-- `loadRom`'s failure, naming the loader's error (R265). -/
  | loadFailed (e : LoadError)
  /-- The byte a Bus read returns. -/
  | byte (b : Byte)
  /-- The frame `stepFrame` or `renderFrame` returns. -/
  | frame (pixels : Memory)
  deriving DecidableEq, Repr

/-- Pairs the next state with what the call returns. -/
def replying (o : Host.Outcome State Fault Refusal) (reply : State → Reply) :
    Host.Outcome (State × Reply) Fault Refusal :=
  match o with
  | .next t => .next (t, reply t)
  | .fault f => .fault f
  | .refused r => .refused r

/-- One call of the host (R11). A direct `renderFrame` writes no field: DESIGN CHOICE, log entry 22, unsafe. -/
def hostCall (k : Call) (s : State) : Host.Outcome (State × Reply) Fault Refusal :=
  match k with
  | .loadRom file =>
    match Sys2Proof.Machine.loadRom file s with
    | .next (t, .ok ()) => .next (t, .loaded)
    | .next (t, .error e) => .next (t, .loadFailed e)
    | .fault f => .fault f
    | .refused r => .refused r
  | .reset => replying (consoleReset s) (fun _ => .done)
  | .stepFrame => replying (Sys2Proof.Machine.stepFrame s) (fun t => .frame t.frameBuffer)
  | .cpuStep => replying (step s) (fun _ => .done)
  | .cpuReset => replying (cpuResetCall s) (fun _ => .done)
  | .busRead addr =>
    match loadedCart s with
    | .error r => .refused r
    | .ok c => .next (s, .byte (Sys2Proof.Machine.busRead c s addr))
  | .busWrite addr value => replying (onBus s (fun _ => Sys2Proof.Machine.busWrite s addr value)) (fun _ => .done)
  | .pictureStep => .next (Sys2Proof.Machine.pictureStep s, .done)
  | .renderFrame tick => .next (s, .frame (Sys2Proof.Machine.renderFrame tick))

end Sys2Proof.Machine
end

