-- ==== Sys2Proof/Safety.lean ====
section
/-! DEFINITION. The terms the claims use: a state that can step, the end of a run, and the invariant of
the machine. -/

namespace Sys2Proof.Machine

/-- The state holds cartridge `c`, and `c` can run (R49, R69). -/
def Loaded (c : Cartridge) (s : State) : Prop := s.cart = some c ∧ c.prgSize ≠ 0

/-- RUNNING with a cartridge that can run: the next step executes an instruction (R130). -/
def Running (c : Cartridge) (s : State) : Prop := Loaded c s ∧ s.halted = false

/-- HALTED with a cartridge that can run (R129). -/
def Halted (c : Cartridge) (s : State) : Prop := Loaded c s ∧ s.halted = true

/-- A run is over when `halted` becomes true (R10). -/
def runOver (s : State) : Bool := s.halted

/-- A cartridge within R41: sizes in whole units of one header byte, canonical storage within them. -/
structure Cartridge.Wf (c : Cartridge) : Prop where
  /-- `prgSize` is `16384 * header[4]`. -/
  prgUnits : ∃ n : Nat, n ≤ 255 ∧ c.prgSize = n * Config.prgUnit
  /-- `chrSize` is `8192 * header[5]`. -/
  chrUnits : ∃ n : Nat, n ≤ 255 ∧ c.chrSize = n * Config.chrUnit
  /-- PRG storage is canonical. -/
  prgForm : c.prgRom.wf
  /-- PRG storage lists offsets below `prgSize` only. -/
  prgWithin : c.prgRom.within c.prgSize
  /-- CHR storage is canonical. -/
  chrForm : c.chrRom.wf
  /-- CHR storage lists offsets below `chrSize` only. -/
  chrWithin : c.chrRom.within c.chrSize

/-- The invariant of the machine: storage is canonical and within its size, a loaded cartridge is as the
loader builds it, the inert parts of `P` and `SP` keep their reset values (R24, R33, R158), the
PictureUnit's counters are in range (R45), and `cycles` is at least its reset value (R34). -/
structure State.Inv (s : State) : Prop where
  /-- `cpuRam` is canonical. -/
  ramForm : s.cpuRam.wf
  /-- `cpuRam` is 2048 bytes (R42). -/
  ramWithin : s.cpuRam.within Config.cpuRamSize
  /-- `ppuRegs` is canonical. -/
  ppuForm : s.ppuRegs.wf
  /-- `ppuRegs` is 8 bytes (R42). -/
  ppuWithin : s.ppuRegs.within Config.ppuRegsSize
  /-- `apuRegs` is canonical. -/
  apuForm : s.apuRegs.wf
  /-- `apuRegs` is 24 bytes (R42). -/
  apuWithin : s.apuRegs.within Config.apuRegsSize
  /-- The frame buffer is canonical. -/
  frameForm : s.frameBuffer.wf
  /-- The frame buffer is 240 x 256 x 3 bytes (R44). -/
  frameWithin : s.frameBuffer.within Config.frameBytes
  /-- A loaded cartridge is within R41 and has some PRG (R69). -/
  cartOk : ∀ c, s.cart = some c → c.Wf ∧ c.prgSize ≠ 0
  /-- `SP` equals its reset value (R24). -/
  spReset : s.sp = 0xFD
  /-- `P` is one of the three values R158 gives. -/
  pReach : s.p = 0x24 ∨ s.p = 0x26 ∨ s.p = 0xA4
  /-- `dot` is 0 to 340 (R45). -/
  dotRange : s.dot ≤ 340
  /-- `scanline` is 0 to 261 (R45). -/
  scanlineRange : s.scanline ≤ 261
  /-- `cycles` is at least 7 (R34). -/
  cyclesMin : 7 ≤ s.cycles

end Sys2Proof.Machine
end

