-- ==== Sys2Proof/Certificates/Slice0/Obligations.lean ====
section
/-! DEFINITION. The statements for the provers. Each says in its docstring which rule of spec/ it reads and,
where the rule rests on a decision of the spec or on the family, which one. -/

/-! ### Readings of the spec's own text, used by the statements -/

namespace Sys2Proof.Reading

open Sys2Proof.Machine

/-- `P` after `SetZN(v)`, as R158 writes it: `(P & 0x7D) | (0x02 if v == 0) | (v & 0x80)`. -/
def flagsAfter (p v : Byte) : Byte := (p &&& 0x7D) ||| (if v = 0 then 0x02 else 0x00) ||| (v &&& 0x80)

/-- R12: `SetZN(v)` on a state. -/
def setFlags (v : Byte) (s : State) : State := { s with p := flagsAfter s.p v }

/-- R130: `FetchByte()`, the byte at `PC` and the state with `PC` one further. -/
def fetchOne (c : Cartridge) (s : State) : Byte × State := (busRead c s s.pc.toNat, { s with pc := s.pc + 1 })

/-- R132: the arm of `case opcode of`, from the state after the opcode fetch; the state it leaves and the cost
it sets. Each line is the pseudocode of that instruction's rule. -/
def arm (c : Cartridge) (op : Byte) (s : State) : State × Nat :=
  let v := (fetchOne c s).1
  let s1 := (fetchOne c s).2
  let w := (fetchOne c s1).1
  if op = 0xEA then (s, 2)
  else if op = 0xA9 then (setFlags v { s1 with a := v }, 2)
  else if op = 0xA2 then (setFlags v { s1 with x := v }, 2)
  else if op = 0xA0 then (setFlags v { s1 with y := v }, 2)
  else if op = 0x85 then (busWrite s1 v.toNat s1.a.toNat, 3)
  else if op = 0x86 then (busWrite s1 v.toNat s1.x.toNat, 3)
  else if op = 0x84 then (busWrite s1 v.toNat s1.y.toNat, 3)
  else if op = 0xAA then (setFlags s.a { s with x := s.a }, 2)
  else if op = 0xA8 then (setFlags s.a { s with y := s.a }, 2)
  else if op = 0xE8 then (setFlags (s.x + 1) { s with x := s.x + 1 }, 2)
  else if op = 0xC8 then (setFlags (s.y + 1) { s with y := s.y + 1 }, 2)
  else if op = 0xCA then (setFlags (s.x + 255) { s with x := s.x + 255 }, 2)
  else if op = 0x88 then (setFlags (s.y + 255) { s with y := s.y + 255 }, 2)
  else if op = 0x4C then ({ s1 with pc := BitVec.ofNat 16 (w.toNat * 256 + v.toNat) }, 3)
  else if op = 0x00 then ({ s with halted := true }, 7)
  else (s, 2)

/-- R131: the bookkeeping in mode `source`. -/
def book (r : State × Nat) : State :=
  { r.1 with cycles := r.1.cycles + r.2, totalCycles := r.1.totalCycles + (r.1.cycles + r.2) }

/-- R132: `CPU.step()`, line by line. -/
def cpuStep (c : Cartridge) (s : State) : State :=
  if s.halted then book (s, 1) else book (arm c (fetchOne c s).1 (fetchOne c s).2)

/-- R165: what a two-byte, three-cycle store of `v` at the zero-page address of `zp` does: `exec` answers a next
state; but for `PC` and the counters no field outside `cpuRam` changes; every address that is a mirror of
`zeroPage zp` reads `v`, and every other address reads as before. -/
def stores (i : Instr) (zp v : Byte) (s : State) : Prop :=
  ∃ t : State, exec i s = .next t ∧
    t = { s with
      pc := s.pc + 2, cycles := s.cycles + 3, totalCycles := s.totalCycles + (s.cycles + 3),
      cpuRam := t.cpuRam } ∧
    ∀ (c : Cartridge) (addr : Nat), busRead c t addr =
      if addr % 0x10000 < 0x2000 ∧ addr % 0x0800 = (zeroPage zp).toNat then v else busRead c s addr

/-- R180: the state after a one-byte, two-cycle instruction that writes `v` into `X` and sets Z and N from it. -/
def withX (s : State) (v : Byte) : State := { s with
  x := v, p := flagsAfter s.p v, pc := s.pc + 1, cycles := s.cycles + 2,
  totalCycles := s.totalCycles + (s.cycles + 2) }

/-- R181: the same for `Y`. -/
def withY (s : State) (v : Byte) : State := { s with
  y := v, p := flagsAfter s.p v, pc := s.pc + 1, cycles := s.cycles + 2,
  totalCycles := s.totalCycles + (s.cycles + 2) }

/-- R126: the 241 unassigned opcode bytes, range by range. -/
def unassignedByte (b : Byte) : Bool :=
  let n := b.toNat
  (0x01 ≤ n && n ≤ 0x4B) || (0x4D ≤ n && n ≤ 0x83) || n == 0x87 || (0x89 ≤ n && n ≤ 0x9F) || n == 0xA1 ||
    (0xA3 ≤ n && n ≤ 0xA7) || (0xAB ≤ n && n ≤ 0xC7) || n == 0xC9 || (0xCB ≤ n && n ≤ 0xE7) || n == 0xE9 ||
    (0xEB ≤ n && n ≤ 0xFF)

/-- R280: the cost column. -/
def cost : Instr → Nat
  | .sta _ => 3
  | .stx _ => 3
  | .sty _ => 3
  | .jmp _ _ => 3
  | .brk => 7
  | _ => 2

/-- What `totalCycles` gains over steps of the given costs when `cycles` starts at `n` (R35): the running
counter after each step. -/
def runningSum (n : Nat) : List Nat → Nat
  | [] => 0
  | k :: ks => (n + k) + runningSum (n + k) ks

/-- `k` steps of the CPU (R10). -/
def steps : Nat → State → Host.Outcome State Fault Refusal
  | 0, s => .next s
  | k + 1, s =>
    match step s with
    | .next t => steps k t
    | .fault f => .fault f
    | .refused r => .refused r

/-- `k` rounds of the body of the frame loop as R236 writes it: `CPU.step()`, then `PictureUnit.step()` three
times. -/
def rounds : Nat → State → Host.Outcome State Fault Refusal
  | 0, s => .next s
  | k + 1, s =>
    match step s with
    | .next t => rounds k (pictureStep (pictureStep (pictureStep t)))
    | .fault f => .fault f
    | .refused r => .refused r

/-- The number of timing steps a PictureUnit position stands for: 341 dots a line, 89342 a frame (R231). -/
def position (s : State) : Nat := s.frameCount * 89342 + s.scanline * 341 + s.dot

end Sys2Proof.Reading

open Sys2Proof
open Sys2Proof.Machine

/-! ### Encoding -/

/-- R120, R121, R123, R124: a byte string decodes to an instruction and a rest exactly when it is that
instruction's bytes followed by that rest. Twelve opcode bytes are the MOS 6502's, marked by the spec as
general knowledge (GK1; log entry 5). -/
def Obligations.DecodingInvertsEncoding : Prop :=
  ∀ (bs : List Byte) (i : Instr) (rest : List Byte), decode bs = .ok (i, rest) ↔ bs = encode i ++ rest

/-- R124, R125: a few words written out from the table (one of each family), bytes in memory order. The document
itself gives the bytes `0x00`, `0xA9` and `0xEA` only (R125); the others are the MOS 6502's, from general knowledge
(GK1, decision D1; PRESUMED, log entry 5), as are the operand sizes and the byte order of `JMP` (GK4, GK5, decision
D7; log entry 5). That `decodeTableWord` numbers an instruction's bits from the first byte's bit 0 upwards is a
convention of the model's, not a rule of the spec (DESIGN CHOICE, log entry 23). -/
def Obligations.TableWordsDecode : Prop :=
  decode [0xA9, 0x42, 0xEA, 0x00] = .ok (.lda 0x42, [0xEA, 0x00]) ∧
  decode [0xEA, 0x00] = .ok (.nop, [0x00]) ∧
  decode [0x00] = .ok (.brk, []) ∧
  decode [0x86, 0x10] = .ok (.stx 0x10, []) ∧
  decode [0xAA] = .ok (.tax, []) ∧
  decode [0x88] = .ok (.dey, []) ∧
  decode [0x4C, 0x05, 0x80] = .ok (.jmp 0x05 0x80, []) ∧
  decode [0xAD, 0x00, 0x20] = .ok (.unassignedAD, [0x00, 0x20]) ∧
  decodeTableWord 24 0x80054C = some (.jmp 0x05 0x80) ∧
  decodeTableWord 8 0x85 = some (.sta 0x00)

/-- R123: the first byte alone gives the length, and the only byte strings the decoder refuses are those that
end before it. Which byte has which length is the spec's from general knowledge (GK1, GK4, decision D1; log entry
5), and of an unassigned byte R126's (decision D2; log entry 7). -/
def Obligations.DecodingFailsOnlyForMissingBytes : Prop :=
  decode [] = .error .noOpcode ∧
  ∀ (op : Byte) (rest : List Byte),
    (operandCount op ≤ rest.length → ∃ i, decode (op :: rest) = .ok (i, rest.drop (operandCount op)) ∧
        i.opcode = op ∧ (encode i).length = 1 + operandCount op) ∧
    (rest.length < operandCount op → decode (op :: rest) = .error (.missingOperand op))

/-- R126: the unassigned opcode bytes are all but the fifteen of R124, in the listed ranges; each is one byte
long, so that the bytes after it are the next opcodes (decision D1; log entry 5), and runs as a two-cycle no-op
(R200, decision D2, policy `nop2`; log entry 7). What `totalCycles` gains is R131's and is left open here. -/
def Obligations.UnassignedBytesAreOneByteNoOps : Prop :=
  (∀ op : Byte, Reading.unassignedByte op = !decide (op ∈ ([0xEA, 0xA9, 0xA2, 0xA0, 0x85, 0x86, 0x84, 0xAA, 0xA8,
      0xE8, 0xC8, 0xCA, 0x88, 0x4C, 0x00] : List Byte))) ∧
  ∀ (op : Byte) (rest : List Byte), Reading.unassignedByte op = true →
    ∃ i, decode (op :: rest) = .ok (i, rest) ∧ encode i = [op] ∧
      ∀ s : State, ∃ n : Nat,
        exec i s = .next { s with pc := s.pc + 1, cycles := s.cycles + 2, totalCycles := n }

/-! ### The step -/

/-- R130, R132: a step of a RUNNING CPU runs the instruction its decoder reads from the bytes at `PC`, fetched
through the Bus at `PC`, `PC + 1`, `PC + 2`, each address wrapped; and there always is one. Nothing is added
around it: moving `PC` and the bookkeeping are part of the instruction's meaning. That the step is cut so, into
a test in `step` and an instruction in `exec`, is the model's (DEDUCED, log entry 18). -/
def Obligations.StepRunsTheDecodedInstruction : Prop :=
  ∀ (c : Cartridge) (s : State), Running c s →
    ∃ (i : Instr) (rest : List Byte),
      decode [busRead c s s.pc.toNat, busRead c s (s.pc.toNat + 1), busRead c s (s.pc.toNat + 2)] = .ok (i, rest) ∧
      step s = exec i s

/-- R129, R131: a HALTED step changes the two counters only. That the one cycle is counted is decision D4 (log
entry 12); `totalCycles` grows in mode `source` (decision D3; log entry 8). -/
def Obligations.HaltedStepOnlyCounts : Prop :=
  ∀ (c : Cartridge) (s : State), Halted c s →
    step s = .next { s with cycles := s.cycles + 1, totalCycles := s.totalCycles + (s.cycles + 1) }

/-- R132 as a refinement: the step, built from a decoder and one meaning an instruction, computes what the
spec's pseudocode computes fetch by fetch, for every loaded state and every opcode byte. It rests on the
defaults of OPCODE_MAP, UNKNOWN_OPCODE_POLICY and TOTAL_CYCLES_MODE (log entries 5, 7, 8), in the HALTED arm on
decision D4 (log entry 12), and in the arm of `BRK` on decision D8 (log entry 13). -/
def Obligations.StepRefinesThePseudocode : Prop :=
  ∀ (c : Cartridge) (s : State), Loaded c s → step s = .next (Reading.cpuStep c s)

/-- R49 (decision D18): before a successful `loadRom` the step, both resets and the frame are refused. -/
def Obligations.NothingRunsWithoutACartridge : Prop :=
  ∀ s : State, s.cart = none →
    step s = .refused .noCartridge ∧ cpuResetCall s = .refused .noCartridge ∧
    consoleReset s = .refused .noCartridge ∧ stepFrame s = .refused .noCartridge

/-- R69 (decision D10; log entry 15): (a) a cartridge with no PRG is refused, when it is loaded and when it would run;
(b) of an image above 32 KiB only the first 32768 bytes are visible. -/
def Obligations.PrgSizeEdges : Prop :=
  (∀ (c : Cartridge) (s : State), s.cart = some c → c.prgSize = 0 → step s = .refused .emptyPrg) ∧
  (∀ (file : List Byte) (c : Cartridge) (s : State), load (some file) = .ok c → file.getD 4 0 = 0 →
    loadRom (some file) s = .refused .emptyPrg) ∧
  (∀ (c : Cartridge) (rom : Memory) (s : State), 0x8000 ≤ c.prgSize →
    (∀ i, i < 0x8000 → rom.read i = c.prgRom.read i) →
    ∀ addr, busRead { c with prgRom := rom } s addr = busRead c s addr)

/-! ### The instructions: result, frame and completion in one equation -/

/-- R150, R131: the byte `0xEA` is `NOP`, and `NOP` completes in every state; it writes `PC` and, by the
bookkeeping (decision D3; log entry 8), the two counters, and nothing else. -/
def Obligations.NopOnlyAdvances : Prop :=
  (∀ rest : List Byte, decode (0xEA :: rest) = .ok (.nop, rest)) ∧
  ∀ s : State, exec .nop s =
    .next { s with pc := s.pc + 1, cycles := s.cycles + 2, totalCycles := s.totalCycles + (s.cycles + 2) }

/-- R155, R156, R157, R158, R131: each load completes in every state; it writes its register with the operand and
Z and N from it, `PC` and the counters, and nothing else. What the mnemonics mean is the spec's from general
knowledge (GK2, GK3, decision D6; log entry 5); `totalCycles` grows in mode `source` (decision D3; log
entry 8). -/
def Obligations.LoadsWriteTheirRegister : Prop :=
  ∀ (v : Byte) (s : State),
    exec (.lda v) s = .next { s with
      a := v, p := Reading.flagsAfter s.p v, pc := s.pc + 2, cycles := s.cycles + 2,
      totalCycles := s.totalCycles + (s.cycles + 2) } ∧
    exec (.ldx v) s = .next { s with
      x := v, p := Reading.flagsAfter s.p v, pc := s.pc + 2, cycles := s.cycles + 2,
      totalCycles := s.totalCycles + (s.cycles + 2) } ∧
    exec (.ldy v) s = .next { s with
      y := v, p := Reading.flagsAfter s.p v, pc := s.pc + 2, cycles := s.cycles + 2,
      totalCycles := s.totalCycles + (s.cycles + 2) }

/-- R165, R166, R167, R131: each store completes in every state; it writes one byte at `zeroPage zp`, seen at every
mirror of that address, and every other address reads as before; no register but `PC`, no flag, nothing but
the counters. What the mnemonics mean is the spec's from general knowledge (GK2, GK3, decision D6; log entry 5);
`totalCycles` grows in mode `source` (decision D3; log entry 8). -/
def Obligations.StoresWriteOneZeroPageByte : Prop :=
  ∀ (zp : Byte) (s : State), (zeroPage zp).toNat = zp.toNat ∧
    Reading.stores (.sta zp) zp s.a s ∧ Reading.stores (.stx zp) zp s.x s ∧ Reading.stores (.sty zp) zp s.y s

/-- R175, R176, R131: each transfer completes in every state; it copies `A`, sets Z and N from it, and changes
nothing else but `PC` and the counters. The mnemonics' meaning is the spec's from general knowledge (GK2,
GK3, decision D6; log entry 5); `totalCycles` grows in mode `source` (decision D3; log entry 8). -/
def Obligations.TransfersCopyA : Prop :=
  ∀ s : State,
    exec .tax s = .next { s with
      x := s.a, p := Reading.flagsAfter s.p s.a, pc := s.pc + 1, cycles := s.cycles + 2,
      totalCycles := s.totalCycles + (s.cycles + 2) } ∧
    exec .tay s = .next { s with
      y := s.a, p := Reading.flagsAfter s.p s.a, pc := s.pc + 1, cycles := s.cycles + 2,
      totalCycles := s.totalCycles + (s.cycles + 2) }

/-- R180, R181, R182, R183, R131: each increment and decrement completes in every state; the register becomes
`(r + 1) mod 256` or `(r + 255) mod 256`, Z and N are set from the result, and nothing else changes but `PC`
and the counters. The mnemonics' meaning is the spec's from general knowledge (GK2, GK3, decision D6; log entry
5); `totalCycles` grows in mode `source` (decision D3; log entry 8). -/
def Obligations.IncrementsAndDecrementsWrap : Prop :=
  ∀ s : State,
    exec .inx s = .next (Reading.withX s (BitVec.ofNat 8 ((s.x.toNat + 1) % 256))) ∧
    exec .iny s = .next (Reading.withY s (BitVec.ofNat 8 ((s.y.toNat + 1) % 256))) ∧
    exec .dex s = .next (Reading.withX s (BitVec.ofNat 8 ((s.x.toNat + 255) % 256))) ∧
    exec .dey s = .next (Reading.withY s (BitVec.ofNat 8 ((s.y.toNat + 255) % 256)))

/-- R190, R131 (decision D7: two bytes, low first; log entry 5): `JMP` completes in every state and sets `PC` to
`hi * 256 + lo`; nothing else changes but the counters, `totalCycles` in mode `source` (decision D3; log entry
8). -/
def Obligations.JmpSetsPC : Prop :=
  ∀ (lo hi : Byte) (s : State), ∃ t : State, exec (.jmp lo hi) s = .next t ∧
    t.pc.toNat = hi.toNat * 256 + lo.toNat ∧
    t = { s with pc := t.pc, cycles := s.cycles + 3, totalCycles := s.totalCycles + (s.cycles + 3) }

/-- R191, R131 (decision D8: no other effect; log entry 13): `BRK` completes in every state; it halts, leaves `PC` after its
opcode byte, costs 7, and changes nothing else: no push, no flag, no vector. `totalCycles` grows in mode `source`
(decision D3; log entry 8). -/
def Obligations.BrkOnlyHalts : Prop :=
  ∀ s : State, exec .brk s = .next { s with
    halted := true, pc := s.pc + 1, cycles := s.cycles + 7, totalCycles := s.totalCycles + (s.cycles + 7) }

/-- R126, R200, R131 (decision D2, policy `nop2`; log entry 7): each of the 241 unassigned instructions completes
in every state as a one-byte, two-cycle no-op. Which bytes these are rests on decision D1 (GK1; log entry 5), and
`totalCycles` grows in mode `source` (decision D3; log entry 8). -/
def Obligations.UnassignedOpcodesAreNoOps : Prop :=
  ∀ (i : Instr) (s : State), Reading.unassignedByte i.opcode = true →
    exec i s = .next { s with
      pc := s.pc + 1, cycles := s.cycles + 2, totalCycles := s.totalCycles + (s.cycles + 2) }

/-! ### Flags and inert state -/

/-- R30: `SetZN(v)` writes `P` only; Zero (`0x02`) is `v == 0`, Negative (`0x80`) is bit 7 of `v`, never both,
and bits 6, 5, 4, 3, 2 and 0 are unchanged. -/
def Obligations.SetZnWritesZeroAndNegativeOnly : Prop :=
  ∀ (s : State) (v : Byte),
    s.setZN v = { s with p := Reading.flagsAfter s.p v } ∧
    (s.setZN v).flagZ = decide (v = 0) ∧
    (s.setZN v).flagN = v.getLsbD 7 ∧
    ((s.setZN v).flagZ && (s.setZN v).flagN) = false ∧
    (∀ k, k ∈ [6, 5, 4, 3, 2, 0] → (s.setZN v).p.getLsbD k = s.p.getLsbD k)

/-- R31: no step reads a flag. Two states that differ in `P` alone step to states that differ in `P` alone. -/
def Obligations.NoStepReadsAFlag : Prop :=
  ∀ (s t : State) (q : Byte), step s = .next t →
    ∃ q' : Byte, step { s with p := q } = .next { t with p := q' }

/-- R24, R28, R33, R260 (decisions D21, D27; log entries 13, 21): over every call of the host, `SP` and the bits
of `P` other than N and Z stay as they are, unless the call resets the CPU: `CPU.reset()`, `Console.reset()`, or
`loadRom`, which resets it (R264). Those leave the reset values, or, where a load fails, what was there. -/
def Obligations.InertRegistersChangeByResetOnly : Prop :=
  ∀ (k : Call) (s t : State) (r : Reply), hostCall k s = .next (t, r) →
    (t.sp = s.sp ∧ t.p &&& 0x7D = s.p &&& 0x7D) ∨
    ((k = .reset ∨ k = .cpuReset ∨ ∃ file, k = .loadRom file) ∧ t.sp = 0xFD ∧ t.p = 0x24)

/-! ### The Bus -/

/-- R61: `BusRead`, line by line. That the eight addresses `0x4018` to `0x401F` read zero is decision D9 (R66,
90_conflicts.md C2; log entry 11), and that the address is masked decision D23 (R63; log entry 20). -/
def Obligations.BusReadFollowsTheMap : Prop :=
  ∀ (c : Cartridge) (s : State) (addr : Nat), busRead c s addr =
    let a := addr &&& 0xFFFF
    if a ≤ 0x1FFF then s.cpuRam.read (a &&& 0x07FF)
    else if a ≤ 0x3FFF then s.ppuRegs.read (a &&& 0x0007)
    else if a ≤ 0x401F then (if a - 0x4000 < 24 then s.apuRegs.read (a - 0x4000) else 0x00)
    else if a ≤ 0x7FFF then 0x00
    else c.prgRom.read ((a - 0x8000) % c.prgSize)

/-- R62: `BusWrite`, line by line: one byte of Bus storage or nothing. That writes at `0x4018` to `0x401F` are
ignored is decision D9 (R66; log entry 11), and that both arguments are masked decision D23 (R63; log entry
20). -/
def Obligations.BusWriteFollowsTheMap : Prop :=
  ∀ (s : State) (addr v : Nat), busWrite s addr v =
    let a := addr &&& 0xFFFF
    let b := BitVec.ofNat 8 (v &&& 0xFF)
    if a ≤ 0x1FFF then { s with cpuRam := s.cpuRam.write (a &&& 0x07FF) b }
    else if a ≤ 0x3FFF then { s with ppuRegs := s.ppuRegs.write (a &&& 0x0007) b }
    else if a ≤ 0x401F then (if a - 0x4000 < 24 then { s with apuRegs := s.apuRegs.write (a - 0x4000) b } else s)
    else s

/-- R75, R77: a read returns the byte last written to the same cell, through any mirror, and every other
address reads as before. The bound `0x4018` is where the storage of the APU window ends (R66, decision D9; log
entry 11), and the masks are decision D23's (R63; log entry 20). -/
def Obligations.ReadsSeeTheLastWrite : Prop :=
  ∀ (c : Cartridge) (s : State) (addr addr' v : Nat),
    busRead c (busWrite s addr v) addr' =
      if busTarget addr' = busTarget addr ∧ addr' % 0x10000 < 0x4018 then BitVec.ofNat 8 v else busRead c s addr'

/-- R64: the four images of RAM are one storage, for reads and for writes. -/
def Obligations.RamIsMirroredFourTimes : Prop :=
  ∀ (c : Cartridge) (s : State) (a b : Nat) (k : Int), a < 0x2000 → b < 0x2000 → (b : Int) = a + 0x800 * k →
    busRead c s a = busRead c s b ∧ ∀ v : Nat, busRead c (busWrite s a v) b = BitVec.ofNat 8 v

/-- R65 (decision D24; log entry 21): the PPU window is eight bytes of plain storage, mirrored every eight addresses. -/
def Obligations.PpuWindowIsMirroredStorage : Prop :=
  ∀ (c : Cartridge) (s : State) (a : Nat), 0x2000 ≤ a → a < 0x4000 →
    busRead c s a = busRead c s (0x2000 + a % 8) ∧
    ∀ v : Nat, busRead c (busWrite s a v) a = BitVec.ofNat 8 v ∧
      busWrite s a v = { s with ppuRegs := s.ppuRegs.write (a % 8) (BitVec.ofNat 8 v) }

/-- R66 (decisions D9, D24; log entries 11, 21): the APU window is 24 bytes of plain unmirrored storage, and the
eight addresses above it read zero and ignore writes. -/
def Obligations.ApuWindowIsLinearStorage : Prop :=
  ∀ (c : Cartridge) (s : State) (v : Nat),
    (∀ i, i < 24 → busRead c s (0x4000 + i) = s.apuRegs.read i ∧
      busWrite s (0x4000 + i) v = { s with apuRegs := s.apuRegs.write i (BitVec.ofNat 8 v) }) ∧
    (∀ a, 0x4018 ≤ a → a ≤ 0x401F → busRead c s a = 0x00 ∧ busWrite s a v = s)

/-- R67: the unmapped range reads zero and ignores writes, with no record of the access. -/
def Obligations.UnmappedRangeReadsZero : Prop :=
  ∀ (c : Cartridge) (s : State) (a v : Nat), 0x4020 ≤ a → a ≤ 0x7FFF →
    busRead c s a = 0x00 ∧ busWrite s a v = s

/-- R68: the PRG window reads `prgRom[(a - 0x8000) mod prgSize]`; a 16 KiB image appears twice and a 32 KiB
image once. -/
def Obligations.PrgWindowReadsModuloSize : Prop :=
  ∀ (c : Cartridge) (s : State),
    (∀ a, 0x8000 ≤ a → a ≤ 0xFFFF → busRead c s a = c.prgRom.read ((a - 0x8000) % c.prgSize)) ∧
    (c.prgSize = 16384 → busRead c s 0xFFFC = c.prgRom.read 0x3FFC ∧
      ∀ i, i < 0x4000 → busRead c s (0x8000 + i) = c.prgRom.read i ∧ busRead c s (0xC000 + i) = c.prgRom.read i) ∧
    (c.prgSize = 32768 → busRead c s 0xFFFC = c.prgRom.read 0x7FFC ∧
      ∀ i, i < 0x8000 → busRead c s (0x8000 + i) = c.prgRom.read i)

/-- R70: writes to the PRG window are discarded. -/
def Obligations.PrgWindowDiscardsWrites : Prop :=
  ∀ (s : State) (a v : Nat), 0x8000 ≤ a → a ≤ 0xFFFF → busWrite s a v = s

/-- R73 (decision D22): a word read is two byte reads, low byte at the lower address, each address wrapped. -/
def Obligations.WordReadsAreLittleEndian : Prop :=
  ∀ (c : Cartridge) (s : State) (addr : Word), (memRead2 c s addr).toNat =
    (busRead c s ((addr.toNat + 1) % 65536)).toNat * 256 + (busRead c s addr.toNat).toNat

/-- R80, R64, R165: after `STA zp` the next fetch from that cell, at any mirror, sees the stored byte as its
opcode. That `STA` stores `A` at `zp` is the spec's from general knowledge (GK2, decision D6; log entry 5). What
`STX` and `STY` store is StoresWriteOneZeroPageByte's. -/
def Obligations.StoresAreSeenByTheNextFetch : Prop :=
  ∀ (c : Cartridge) (s t : State) (zp : Byte) (target : Word), exec (.sta zp) s = .next t →
    target.toNat < 0x2000 → target.toNat % 0x0800 = zp.toNat →
    (fetchInstr c { t with pc := target }).opcode = s.a

/-- R82, R20, R44, R46: what a step can write outside the CPU's registers is `cpuRam[0..255]` alone: both register
windows, the rest of RAM, the cartridge, the PictureUnit and the Console stay as they are. That a CPU step alone
moves no dot and no tick is the model's reading (DEDUCED, log entry 16); that stores reach page zero only rests
on the mnemonics' meaning (GK2, GK4; log entry 5). -/
def Obligations.StepsWriteOnlyPageZero : Prop :=
  ∀ s t : State, step s = .next t →
    t.ppuRegs = s.ppuRegs ∧ t.apuRegs = s.apuRegs ∧ t.cart = s.cart ∧ t.dot = s.dot ∧ t.scanline = s.scanline ∧
    t.frameCount = s.frameCount ∧ t.frameBuffer = s.frameBuffer ∧ t.tick = s.tick ∧
    ∀ i, 0x100 ≤ i → t.cpuRam.read i = s.cpuRam.read i

/-! ### Control -/

/-- R26, R129, R190: how a step changes `PC`: not at all when HALTED, to the operand for `JMP`, else past the
instruction's bytes. The byte `0x4C`, the lengths, and the operand of `JMP` with its low byte first are the spec's
from general knowledge (GK1, GK4, GK5, decisions D1, D7; log entry 5); that an unassigned opcode is one byte is R126's (decision D2; log
entry 7). -/
def Obligations.StepsMovePCByTheFormat : Prop :=
  ∀ (c : Cartridge) (s : State), Loaded c s → ∃ t : State, step s = .next t ∧
    t.pc = if s.halted then s.pc
      else if busRead c s s.pc.toNat = 0x4C then
        BitVec.ofNat 16 ((busRead c s (s.pc.toNat + 2)).toNat * 256 + (busRead c s (s.pc.toNat + 1)).toNat)
      else s.pc + BitVec.ofNat 16 (1 + operandCount (busRead c s s.pc.toNat))

/-- R36, R217, R132: a CPU step always answers, and ends HALTED exactly when it began HALTED or executed opcode
`0x00`; CPU reset always leaves RUNNING. That the step of an unassigned opcode answers and stays RUNNING is
R126's (decision D2, policy `nop2`; log entry 7). -/
def Obligations.OnlyBrkHaltsAStepAndCpuResetResumes : Prop :=
  ∀ (c : Cartridge) (s : State), Loaded c s →
    (∃ t : State, step s = .next t ∧ t.halted = (s.halted || decide (busRead c s s.pc.toNat = 0x00))) ∧
    ∃ u : State, cpuResetCall s = .next u ∧ u.halted = false

/-- R192: control flow depends on the bytes fetched alone. Two states with the same `PC`, run state,
cartridge and Bus storage step to the same `PC` and run state, whatever their registers, flags and
counters. -/
def Obligations.ControlFlowIgnoresRegisters : Prop :=
  ∀ s s' t t' : State, s.pc = s'.pc → s.halted = s'.halted → s.cart = s'.cart → s.cpuRam = s'.cpuRam →
    s.ppuRegs = s'.ppuRegs → s.apuRegs = s'.apuRegs → step s = .next t → step s' = .next t' →
    t.pc = t'.pc ∧ t.halted = t'.halted

/-- R71, R94 (decision D28; log entry 21): the mapper number and CHR ROM have no effect on a step. -/
def Obligations.MapperAndChrHaveNoEffect : Prop :=
  ∀ (c d : Cartridge) (s t : State), s.cart = some c → d.prgRom = c.prgRom → d.prgSize = c.prgSize →
    step s = .next t → step { s with cart := some d } = .next { t with cart := some d }

/-! ### Counters -/

/-- R131 (decision D3): the bookkeeping of a step of any cost, in both modes, and the mode the model takes
(log entry 8). -/
def Obligations.BookkeepingInBothModes : Prop :=
  ∀ (s : State) (cost : Nat),
    s.chargeIn .source cost =
      { s with cycles := s.cycles + cost, totalCycles := s.totalCycles + (s.cycles + cost) } ∧
    s.chargeIn .corrected cost = { s with cycles := s.cycles + cost, totalCycles := s.totalCycles + cost } ∧
    s.charge cost = s.chargeIn .source cost

/-- R280, R129: the cost of every step: the table's for the instruction, whatever its operands and the state; 1
when HALTED, which is added to `cycles` by decision D4 (log entry 12); and CPU reset sets `cycles` to 7. The cost
of an unassigned opcode is that of the policy `nop2` (decision D2; log entry 7). -/
def Obligations.StepCostsAreTheTables : Prop :=
  (∀ (i : Instr) (s : State), ∃ t : State, exec i s = .next t ∧ t.cycles = s.cycles + Reading.cost i) ∧
  (∀ (c : Cartridge) (s : State), Halted c s → ∃ t : State, step s = .next t ∧ t.cycles = s.cycles + 1) ∧
  (∀ (c : Cartridge) (s : State), Loaded c s → ∃ t : State, cpuResetCall s = .next t ∧ t.cycles = 7)

/-- R34, R35 (decision D3; log entry 8; the HALTED step's 1 is decision D4, log entry 12): over any run, `cycles` grows by the sum of the steps' costs and
`totalCycles` by the sum of the running counter after each step. -/
def Obligations.CountersOfARun : Prop :=
  ∀ (n : Nat) (s t : State), Reading.steps n s = .next t →
    ∃ costs : List Nat, costs.length = n ∧ (∀ k ∈ costs, k ∈ [1, 2, 3, 7]) ∧
      t.cycles = s.cycles + costs.sum ∧ t.totalCycles = s.totalCycles + Reading.runningSum s.cycles costs

/-! ### Reset and loading -/

/-- R260: `CPU.reset()` writes every CPU field with the values of the rule, `PC` from the reset vector, and
nothing else. -/
def Obligations.CpuResetWritesEveryCpuField : Prop :=
  ∀ (c : Cartridge) (s : State), Loaded c s → cpuResetCall s = .next { s with
    pc := BitVec.ofNat 16 ((busRead c s 0xFFFD).toNat * 256 + (busRead c s 0xFFFC).toNat),
    a := 0, x := 0, y := 0, sp := 0xFD, p := 0x24, cycles := 7, totalCycles := 0, halted := false }

/-- R262: `Console.reset()` is `CPU.reset()` with `tick` and `frameCount` zeroed; Bus storage, the cartridge,
`dot`, `scanline` and the frame buffer stay. -/
def Obligations.ConsoleResetAlsoZeroesTickAndFrameCount : Prop :=
  ∀ (c : Cartridge) (s : State), Loaded c s → ∃ t : State, cpuResetCall s = .next t ∧
    consoleReset s = .next { t with tick := 0, frameCount := 0 } ∧
    t.cpuRam = s.cpuRam ∧ t.ppuRegs = s.ppuRegs ∧ t.apuRegs = s.apuRegs ∧ t.cart = s.cart ∧ t.dot = s.dot ∧
    t.scanline = s.scanline ∧ t.frameBuffer = s.frameBuffer

/-- R261: the reset vector comes from the cartridge: `prgRom[0x7FFC mod prgSize]` and the byte after it. The
spec leaves RESET_PC_DEFAULT unused (decision D17; log entry 2). -/
def Obligations.ResetVectorComesFromTheCartridge : Prop :=
  ∀ (c : Cartridge) (s : State), Loaded c s → ∃ t : State, cpuResetCall s = .next t ∧
    t.pc.toNat = (c.prgRom.read (0x7FFD % c.prgSize)).toNat * 256 + (c.prgRom.read (0x7FFC % c.prgSize)).toNat

/-- R264 (decision D12; log entry 15): a successful `loadRom` installs the cartridge on a new Bus, whose storage reads
`INIT_BUS` (log entry 4) everywhere, and resets; the PictureUnit's position is kept. -/
def Obligations.LoadRomInstallsAndResets : Prop :=
  ∀ (file : List Byte) (c : Cartridge) (s : State), load (some file) = .ok c → c.prgSize ≠ 0 →
    ∃ t : State, loadRom (some file) s = .next (t, .ok ()) ∧ t.cart = some c ∧
      (∀ addr, addr < 0x8000 → busRead c t addr = 0x00) ∧
      t.pc.toNat = (c.prgRom.read (0x7FFD % c.prgSize)).toNat * 256 + (c.prgRom.read (0x7FFC % c.prgSize)).toNat ∧
      t.a = 0 ∧ t.x = 0 ∧ t.y = 0 ∧ t.sp = 0xFD ∧ t.p = 0x24 ∧ t.cycles = 7 ∧ t.totalCycles = 0 ∧
      t.halted = false ∧ t.tick = 0 ∧ t.frameCount = 0 ∧ t.dot = s.dot ∧ t.scanline = s.scanline ∧
      t.frameBuffer = s.frameBuffer

/-- R93, R265 (decision D19; log entry 15): a failed `loadRom` names the loader's error and changes nothing; a missing file
and a wrong magic fail. -/
def Obligations.FailedLoadsChangeNothing : Prop :=
  ∀ s : State,
    loadRom none s = .next (s, .error .notFound) ∧
    (∀ file : List Byte, file.take 4 ≠ [0x4E, 0x45, 0x53, 0x1A] →
      loadRom (some file) s = .next (s, .error .invalidFormat)) ∧
    (∀ (file : Option (List Byte)) (e : LoadError), load file = .error e → loadRom file s = .next (s, .error e))

/-- R88, R89 (decision D19: the magic is checked before any length; log entry 15): which of the loader's three failures a
file gives, and that there is no other validation. -/
def Obligations.LoaderFailuresByTaxonomy : Prop :=
  load none = .error .notFound ∧
  ∀ file : List Byte,
    (load (some file) = .error .invalidFormat ↔ file.take 4 ≠ [0x4E, 0x45, 0x53, 0x1A]) ∧
    (load (some file) = .error .io ↔ file.take 4 = [0x4E, 0x45, 0x53, 0x1A] ∧
      (file.length < 16 ∨
        file.length < 16 + 16384 * (file.getD 4 0).toNat + 8192 * (file.getD 5 0).toNat)) ∧
    ((∃ c, load (some file) = .ok c) ↔ file.take 4 = [0x4E, 0x45, 0x53, 0x1A] ∧
      16 + 16384 * (file.getD 4 0).toNat + 8192 * (file.getD 5 0).toNat ≤ file.length)

/-- R41, R85, R86: what a loaded cartridge holds, byte for byte, and that it is well formed. The order of the
checks is the spec's decision D19 (log entry 15). -/
def Obligations.LoadedCartridgeHoldsTheImage : Prop :=
  ∀ (file : List Byte) (c : Cartridge), load (some file) = .ok c →
    c.prgSize = 16384 * (file.getD 4 0).toNat ∧ c.chrSize = 8192 * (file.getD 5 0).toNat ∧
    (∀ i, i < c.prgSize → c.prgRom.read i = file.getD (16 + i) 0) ∧
    (∀ i, i < c.chrSize → c.chrRom.read i = file.getD (16 + c.prgSize + i) 0) ∧ c.Wf

/-- R87: the high nibble of `flags6` becomes bits 3..0 of the mapper number and the high nibble of `flags7`
bits 7..4. -/
def Obligations.MapperNumberFromTheFlagNibbles : Prop :=
  ∀ (file : List Byte) (c : Cartridge), load (some file) = .ok c →
    c.mapperId = (file.getD 6 0 >>> 4) ||| (file.getD 7 0 &&& 0xF0) ∧
    c.mapperId.toNat = (file.getD 7 0).toNat / 16 * 16 + (file.getD 6 0).toNat / 16

/-- R90: two files that differ only in the low nibbles of `flags6` and `flags7` and in offsets 8 to 15 load
alike. -/
def Obligations.IgnoredHeaderFieldsAreIgnored : Prop :=
  ∀ f g : List Byte, f.length = g.length →
    (∀ i, i < 6 → f.getD i 0 = g.getD i 0) →
    (f.getD 6 0).toNat / 16 = (g.getD 6 0).toNat / 16 → (f.getD 7 0).toNat / 16 = (g.getD 7 0).toNat / 16 →
    (∀ i, 16 ≤ i → f.getD i 0 = g.getD i 0) →
    load (some f) = load (some g)

/-! ### The PictureUnit and the frame -/

/-- R230 (decision D14: `frameCount` goes up at the scanline wrap; log entry 14): one timing step. -/
def Obligations.PictureStepWrapsDotAndScanline : Prop :=
  ∀ s : State, pictureStep s =
    if s.dot + 1 = 341 then
      if s.scanline + 1 = 262 then { s with dot := 0, scanline := 0, frameCount := s.frameCount + 1 }
      else { s with dot := 0, scanline := s.scanline + 1 }
    else { s with dot := s.dot + 1 }

/-- R231, R230, R45: `n` timing steps in closed form; nothing but the three counters changes. That `frameCount`
goes up at the scanline wrap is decision D14 (log entry 14). -/
def Obligations.PictureStepsInClosedForm : Prop :=
  ∀ (n : Nat) (s : State), s.dot ≤ 340 → s.scanline ≤ 261 →
    pictureSteps n s = { s with
      dot := (s.scanline * 341 + s.dot + n) % 341
      scanline := (s.scanline * 341 + s.dot + n) / 341 % 262
      frameCount := s.frameCount + (s.scanline * 341 + s.dot + n) / 89342 }

/-- R232 (decision D16; log entries 10, 14): a frame buffer is 240 x 256 x 3 bytes, each `FrameSource`'s for that tick, and depends
on nothing else. -/
def Obligations.FramesAreDrawnFromTheTick : Prop :=
  ∀ (tick i : Nat), (renderFrame tick).read i = if i < 240 * 256 * 3 then Config.frameSource tick i else 0x00

/-- R236 (decisions D15, D16; log entry 14): `stepFrame` runs the body (a CPU step, then three timing steps) as long as, and
only as long as, `cycles` is below the target and the CPU is not halted; then `tick` goes up by one and the
new tick's frame is drawn. -/
def Obligations.FrameIsTheBudgetedLoop : Prop :=
  ∀ (c : Cartridge) (s : State), Loaded c s →
    ∃ (k : Nat) (t : State), Reading.rounds k s = .next t ∧
      (∀ j, j < k → ∃ u : State, Reading.rounds j s = .next u ∧ u.cycles < s.cycles + 29780 ∧ u.halted = false) ∧
      (s.cycles + 29780 ≤ t.cycles ∨ t.halted = true) ∧
      stepFrame s = .next { t with tick := s.tick + 1, frameBuffer := renderFrame (s.tick + 1) }

/-- R237, R236: a frame on a HALTED CPU steps nothing: `tick` goes up and a new frame is drawn. That the loop
tests before its first step is decision D15, and that the new tick is the one drawn decision D16 (log entry 14). -/
def Obligations.HaltedFrameOnlyTicks : Prop :=
  ∀ (c : Cartridge) (s : State), Halted c s →
    stepFrame s = .next { s with tick := s.tick + 1, frameBuffer := renderFrame (s.tick + 1) }

/-- R236, R238, R239, R275: a frame of a RUNNING CPU is some number `k` of CPU steps with three timing steps after
each, and then the end of the frame (decisions D15, D16; log entry 14); it moves the PictureUnit `3 * k` dots. If
the CPU did not halt, the frame overshoots its budget by at most 2 cycles and `k` is between 9927 and 14890; if it
halted, by at most 6 cycles, after 1 to 14890 steps. Positions count frames by decision D14 (log entry 14). -/
def Obligations.FrameLengthAndDots : Prop :=
  ∀ (c : Cartridge) (s : State), Running c s → s.dot ≤ 340 → s.scanline ≤ 261 →
    ∃ (k : Nat) (t : State), Reading.rounds k s = .next t ∧
      stepFrame s = .next { t with tick := s.tick + 1, frameBuffer := renderFrame (s.tick + 1) } ∧
      Reading.position t = Reading.position s + 3 * k ∧
      (t.halted = false → s.cycles + 29780 ≤ t.cycles ∧ t.cycles ≤ s.cycles + 29782 ∧ 9927 ≤ k ∧ k ≤ 14890) ∧
      (t.halted = true → t.cycles ≤ s.cycles + 29786 ∧ 1 ≤ k ∧ k ≤ 14890)

/-! ### The machine as a whole -/

/-- R210, R132: nothing fails in a running machine: with a cartridge loaded, every call of the host answers,
but for the loading of an image with no PRG, which is refused (R69, decision D10; log entry 15). -/
def Obligations.EveryCallButAnEmptyLoadAnswers : Prop :=
  ∀ (c : Cartridge) (s : State), Loaded c s → ∀ k : Call,
    (∃ (t : State) (r : Reply), hostCall k s = .next (t, r)) ∨
    (∃ file d, k = .loadRom (some file) ∧ load (some file) = .ok d ∧ d.prgSize = 0 ∧
      hostCall k s = .refused .emptyPrg)

/-- R45, R48: the invariant holds at reset. The storage contents, `PC` and the absence of a cartridge there are the
model's choices (log entries 1, 2, 4, 6). -/
def Obligations.ResetStateIsWithinTheInvariant : Prop := State.reset.Inv

/-- R20, R24, R33, R41, R45, R158: every step keeps the invariant, from every state that meets it. -/
def Obligations.StepsKeepTheInvariant : Prop :=
  ∀ s t : State, s.Inv → step s = .next t → t.Inv

/-- R20, R24, R33, R41, R45, R158: every call of the host keeps the invariant: loading, resets, frames, direct
Bus writes among them. -/
def Obligations.HostCallsKeepTheInvariant : Prop :=
  ∀ (k : Call) (s t : State) (r : Reply), s.Inv → hostCall k s = .next (t, r) → t.Inv
end

