-- ==== Sys2Proof/Laws/Memory.lean ====
section
/-! SUPPORT. The laws of sparse byte storage: what a read returns after a write, that every operation keeps
the canonical form and the size, and what the storage of a byte list reads as. -/

namespace Sys2Proof.Machine

theorem Memory.read_nil (k : Nat) : Memory.read [] k = unlistedByte := rfl

theorem Memory.read_cons (c : Host.Cell) (m : Memory) (k : Nat) :
    Memory.read (c :: m) k = if c.1 = k then c.2 else Memory.read m k := rfl

theorem Memory.read_insert_same (k : Nat) (v : Byte) (m : Memory) (h : ∀ c ∈ m, c.1 ≠ k) :
    (Memory.insert k v m).read k = v := by
  induction m with
  | nil => simp [Memory.insert, Memory.read_cons]
  | cons c m ih =>
    have hc : c.1 ≠ k := h c (by simp)
    have ht : ∀ d ∈ m, d.1 ≠ k := fun d hd => h d (by simp [hd])
    by_cases hlt : c.1 < k
    · simp [Memory.insert, hlt, Memory.read_cons, hc, ih ht]
    · simp [Memory.insert, hlt, Memory.read_cons]

theorem Memory.read_insert_other (k j : Nat) (v : Byte) (m : Memory) (h : j ≠ k) :
    (Memory.insert k v m).read j = m.read j := by
  induction m with
  | nil => simp [Memory.insert, Memory.read_cons, h.symm]
  | cons c m ih =>
    by_cases hlt : c.1 < k
    · simp [Memory.insert, hlt, Memory.read_cons, ih]
    · simp [Memory.insert, hlt, Memory.read_cons, h.symm]

theorem Memory.mem_erase (k : Nat) (m : Memory) (c : Host.Cell) :
    c ∈ m.erase k ↔ c ∈ m ∧ c.1 ≠ k := by simp [Memory.erase]

theorem Memory.read_erase_same (k : Nat) (m : Memory) : (m.erase k).read k = unlistedByte := by
  induction m with
  | nil => rfl
  | cons c m ih =>
    by_cases hc : c.1 = k
    · simpa [Memory.erase, hc] using ih
    · simpa [Memory.erase, hc, Memory.read_cons] using ih

theorem Memory.read_erase_other (k j : Nat) (m : Memory) (h : j ≠ k) : (m.erase k).read j = m.read j := by
  induction m with
  | nil => rfl
  | cons c m ih =>
    by_cases hc : c.1 = k
    · have : c.1 ≠ j := by omega
      simpa [Memory.erase, hc, Memory.read_cons, this, h.symm] using ih
    · by_cases hj : c.1 = j <;> simp_all [Memory.erase, Memory.read_cons]

/-- A read after a write: the byte written at its index, the byte from before at every other. -/
theorem Memory.read_write (m : Memory) (k j : Nat) (v : Byte) :
    (m.write k v).read j = if j = k then v else m.read j := by
  unfold Memory.write
  by_cases h : j = k
  · subst h
    split
    · rename_i hv; simp [Memory.read_erase_same, hv]
    · simp [Memory.read_insert_same j v _ (fun c hc => ((Memory.mem_erase j m c).1 hc).2)]
  · split
    · simp [Memory.read_erase_other k j m h]
    · simp [Memory.read_insert_other k j v _ h, Memory.read_erase_other k j m h]

theorem Memory.mem_insert (k : Nat) (v : Byte) (m : Memory) (c : Host.Cell) :
    c ∈ Memory.insert k v m ↔ c = (k, v) ∨ c ∈ m := by
  induction m with
  | nil => simp [Memory.insert]
  | cons d m ih =>
    unfold Memory.insert
    split
    · simp only [List.mem_cons, ih]; tauto
    · simp only [List.mem_cons]

theorem Memory.wf_erase (k : Nat) {m : Memory} (h : m.wf) : (m.erase k).wf :=
  ⟨h.1.filter _, fun c hc => h.2 c ((Memory.mem_erase k m c).1 hc).1⟩

theorem Memory.pairwise_insert (k : Nat) (v : Byte) (m : Memory)
    (h : m.Pairwise (fun c d => c.1 < d.1)) (hk : ∀ c ∈ m, c.1 ≠ k) :
    (Memory.insert k v m).Pairwise (fun c d => c.1 < d.1) := by
  induction m with
  | nil => simp [Memory.insert]
  | cons c m ih =>
    obtain ⟨hc, hm⟩ := List.pairwise_cons.1 h
    have hck : c.1 ≠ k := hk c (by simp)
    unfold Memory.insert
    split
    · rename_i hlt
      refine List.pairwise_cons.2 ⟨fun d hd => ?_, ih hm (fun d hd => hk d (by simp [hd]))⟩
      obtain rfl | hd := (Memory.mem_insert k v m d).1 hd
      · exact hlt
      · exact hc d hd
    · rename_i hlt
      refine List.pairwise_cons.2 ⟨fun d hd => ?_, h⟩
      have hkc : k < c.1 := by omega
      obtain rfl | hd := List.mem_cons.1 hd
      · exact hkc
      · exact Nat.lt_trans hkc (hc d hd)

/-- A write keeps the canonical form. -/
theorem Memory.wf_write (k : Nat) (v : Byte) {m : Memory} (h : m.wf) : (m.write k v).wf := by
  unfold Memory.write
  split
  · exact Memory.wf_erase k h
  · rename_i hv
    have he := Memory.wf_erase k h
    refine ⟨Memory.pairwise_insert k v _ he.1 (fun c hc => ((Memory.mem_erase k m c).1 hc).2), fun c hc => ?_⟩
    obtain rfl | hc := (Memory.mem_insert k v _ c).1 hc
    · exact hv
    · exact he.2 c hc

/-- A write below the size keeps the storage within its size. -/
theorem Memory.within_write {size k : Nat} (v : Byte) {m : Memory} (hk : k < size) (h : m.within size) :
    (m.write k v).within size := by
  have he : (m.erase k).within size := fun c hc => h c ((Memory.mem_erase k m c).1 hc).1
  unfold Memory.write
  split
  · exact he
  · intro c hc
    obtain rfl | hc := (Memory.mem_insert k v _ c).1 hc
    · exact hk
    · exact he c hc

/-- Empty storage is canonical. -/
theorem Memory.wf_nil : Memory.wf [] := ⟨List.Pairwise.nil, fun _ h => by cases h⟩

/-- Empty storage is within any size. -/
theorem Memory.within_nil (size : Nat) : Memory.within size [] := fun _ h => by cases h

theorem Memory.ofBytesFrom_range (bs : List Byte) (k : Nat) :
    ∀ c ∈ Memory.ofBytesFrom k bs, k ≤ c.1 ∧ c.1 < k + bs.length := by
  induction bs generalizing k with
  | nil => intro c hc; cases hc
  | cons b bs ih =>
    intro c hc
    have tail : c ∈ Memory.ofBytesFrom (k + 1) bs → k ≤ c.1 ∧ c.1 < k + (b :: bs).length := fun h => by
      have := ih (k + 1) c h
      simp only [List.length_cons]; omega
    unfold Memory.ofBytesFrom at hc
    split at hc
    · exact tail hc
    · obtain rfl | hc := List.mem_cons.1 hc
      · simp
      · exact tail hc

theorem Memory.wf_ofBytesFrom (bs : List Byte) (k : Nat) : (Memory.ofBytesFrom k bs).wf := by
  induction bs generalizing k with
  | nil => exact Memory.wf_nil
  | cons b bs ih =>
    unfold Memory.ofBytesFrom
    split
    · exact ih (k + 1)
    · rename_i hb
      refine ⟨List.pairwise_cons.2 ⟨fun d hd => ?_, (ih (k + 1)).1⟩, fun c hc => ?_⟩
      · exact (Memory.ofBytesFrom_range bs (k + 1) d hd).1
      · obtain rfl | hc := List.mem_cons.1 hc
        · exact hb
        · exact (ih (k + 1)).2 c hc

/-- The storage of a byte list is canonical. -/
theorem Memory.wf_ofBytes (bs : List Byte) : (Memory.ofBytes bs).wf := Memory.wf_ofBytesFrom bs 0

/-- The storage of a byte list is within any size the list fits in. -/
theorem Memory.within_ofBytes {size : Nat} (bs : List Byte) (h : bs.length ≤ size) :
    (Memory.ofBytes bs).within size := fun c hc => by
  have := Memory.ofBytesFrom_range bs 0 c hc
  omega

theorem Memory.read_of_lt (m : Memory) (k : Nat) (h : ∀ c ∈ m, k < c.1) : m.read k = unlistedByte := by
  induction m with
  | nil => rfl
  | cons c m ih =>
    have hc : c.1 ≠ k := by have := h c (by simp); omega
    simp [Memory.read_cons, hc, ih (fun d hd => h d (by simp [hd]))]

theorem Memory.read_ofBytesFrom (bs : List Byte) (k i : Nat) :
    (Memory.ofBytesFrom k bs).read (k + i) = bs.getD i unlistedByte := by
  induction bs generalizing k i with
  | nil => rfl
  | cons b bs ih =>
    cases i with
    | zero =>
      have hlt : ∀ c ∈ Memory.ofBytesFrom (k + 1) bs, k < c.1 := fun c hc =>
        (Memory.ofBytesFrom_range bs (k + 1) c hc).1
      unfold Memory.ofBytesFrom
      split
      · rename_i hb; simp [Memory.read_of_lt _ k hlt, hb]
      · simp [Memory.read_cons]
    | succ i =>
      have h := ih (k + 1) i
      rw [show k + 1 + i = k + (i + 1) by omega] at h
      unfold Memory.ofBytesFrom
      split
      · simpa using h
      · simpa [Memory.read_cons] using h

/-- The storage of a byte list reads back the list. -/
theorem Memory.read_ofBytes (bs : List Byte) (i : Nat) : (Memory.ofBytes bs).read i = bs.getD i unlistedByte := by
  have h := Memory.read_ofBytesFrom bs 0 i
  rwa [Nat.zero_add] at h

/-- A table of values is the storage of their list. -/
theorem Memory.tabulate_eq (f : Nat → Byte) (n k : Nat) :
    Memory.tabulate f n k = Memory.ofBytesFrom k ((List.range' k n).map f) := by
  induction n generalizing k with
  | zero => rfl
  | succ n ih => simp only [Memory.tabulate, List.range'_succ, List.map_cons, Memory.ofBytesFrom, ih]

/-- A table is canonical. -/
theorem Memory.wf_tabulate (f : Nat → Byte) (n : Nat) : (Memory.tabulate f n 0).wf := by
  rw [Memory.tabulate_eq]; exact Memory.wf_ofBytesFrom _ 0

/-- A table of `n` values is within size `n`. -/
theorem Memory.within_tabulate (f : Nat → Byte) (n : Nat) : (Memory.tabulate f n 0).within n := by
  rw [Memory.tabulate_eq]
  exact Memory.within_ofBytes _ (by simp)

/-- A table reads back the function it was made from. -/
theorem Memory.read_tabulate (f : Nat → Byte) (n i : Nat) :
    (Memory.tabulate f n 0).read i = if i < n then f i else unlistedByte := by
  rw [Memory.tabulate_eq]
  have h := Memory.read_ofBytesFrom ((List.range' 0 n).map f) 0 i
  rw [Nat.zero_add] at h
  rw [h]
  by_cases hi : i < n <;> simp [List.getD, hi]

end Sys2Proof.Machine
end

