-- ==== Sys2Proof/Laws/State.lean ====
section
/-! SUPPORT. One lemma per field of the state per update, so that no proof unfolds a record update. -/

namespace Sys2Proof.Machine

@[simp] theorem State.setA_a (s : State) (v : Byte) : (s.setA v).a = v := rfl
@[simp] theorem State.setA_x (s : State) (v : Byte) : (s.setA v).x = s.x := rfl
@[simp] theorem State.setA_y (s : State) (v : Byte) : (s.setA v).y = s.y := rfl
@[simp] theorem State.setA_sp (s : State) (v : Byte) : (s.setA v).sp = s.sp := rfl
@[simp] theorem State.setA_pc (s : State) (v : Byte) : (s.setA v).pc = s.pc := rfl
@[simp] theorem State.setA_p (s : State) (v : Byte) : (s.setA v).p = s.p := rfl
@[simp] theorem State.setA_cycles (s : State) (v : Byte) : (s.setA v).cycles = s.cycles := rfl
@[simp] theorem State.setA_totalCycles (s : State) (v : Byte) : (s.setA v).totalCycles = s.totalCycles := rfl
@[simp] theorem State.setA_halted (s : State) (v : Byte) : (s.setA v).halted = s.halted := rfl
@[simp] theorem State.setA_cpuRam (s : State) (v : Byte) : (s.setA v).cpuRam = s.cpuRam := rfl
@[simp] theorem State.setA_ppuRegs (s : State) (v : Byte) : (s.setA v).ppuRegs = s.ppuRegs := rfl
@[simp] theorem State.setA_apuRegs (s : State) (v : Byte) : (s.setA v).apuRegs = s.apuRegs := rfl
@[simp] theorem State.setA_cart (s : State) (v : Byte) : (s.setA v).cart = s.cart := rfl
@[simp] theorem State.setA_dot (s : State) (v : Byte) : (s.setA v).dot = s.dot := rfl
@[simp] theorem State.setA_scanline (s : State) (v : Byte) : (s.setA v).scanline = s.scanline := rfl
@[simp] theorem State.setA_frameCount (s : State) (v : Byte) : (s.setA v).frameCount = s.frameCount := rfl
@[simp] theorem State.setA_frameBuffer (s : State) (v : Byte) : (s.setA v).frameBuffer = s.frameBuffer := rfl
@[simp] theorem State.setA_tick (s : State) (v : Byte) : (s.setA v).tick = s.tick := rfl

@[simp] theorem State.setX_a (s : State) (v : Byte) : (s.setX v).a = s.a := rfl
@[simp] theorem State.setX_x (s : State) (v : Byte) : (s.setX v).x = v := rfl
@[simp] theorem State.setX_y (s : State) (v : Byte) : (s.setX v).y = s.y := rfl
@[simp] theorem State.setX_sp (s : State) (v : Byte) : (s.setX v).sp = s.sp := rfl
@[simp] theorem State.setX_pc (s : State) (v : Byte) : (s.setX v).pc = s.pc := rfl
@[simp] theorem State.setX_p (s : State) (v : Byte) : (s.setX v).p = s.p := rfl
@[simp] theorem State.setX_cycles (s : State) (v : Byte) : (s.setX v).cycles = s.cycles := rfl
@[simp] theorem State.setX_totalCycles (s : State) (v : Byte) : (s.setX v).totalCycles = s.totalCycles := rfl
@[simp] theorem State.setX_halted (s : State) (v : Byte) : (s.setX v).halted = s.halted := rfl
@[simp] theorem State.setX_cpuRam (s : State) (v : Byte) : (s.setX v).cpuRam = s.cpuRam := rfl
@[simp] theorem State.setX_ppuRegs (s : State) (v : Byte) : (s.setX v).ppuRegs = s.ppuRegs := rfl
@[simp] theorem State.setX_apuRegs (s : State) (v : Byte) : (s.setX v).apuRegs = s.apuRegs := rfl
@[simp] theorem State.setX_cart (s : State) (v : Byte) : (s.setX v).cart = s.cart := rfl
@[simp] theorem State.setX_dot (s : State) (v : Byte) : (s.setX v).dot = s.dot := rfl
@[simp] theorem State.setX_scanline (s : State) (v : Byte) : (s.setX v).scanline = s.scanline := rfl
@[simp] theorem State.setX_frameCount (s : State) (v : Byte) : (s.setX v).frameCount = s.frameCount := rfl
@[simp] theorem State.setX_frameBuffer (s : State) (v : Byte) : (s.setX v).frameBuffer = s.frameBuffer := rfl
@[simp] theorem State.setX_tick (s : State) (v : Byte) : (s.setX v).tick = s.tick := rfl

@[simp] theorem State.setY_a (s : State) (v : Byte) : (s.setY v).a = s.a := rfl
@[simp] theorem State.setY_x (s : State) (v : Byte) : (s.setY v).x = s.x := rfl
@[simp] theorem State.setY_y (s : State) (v : Byte) : (s.setY v).y = v := rfl
@[simp] theorem State.setY_sp (s : State) (v : Byte) : (s.setY v).sp = s.sp := rfl
@[simp] theorem State.setY_pc (s : State) (v : Byte) : (s.setY v).pc = s.pc := rfl
@[simp] theorem State.setY_p (s : State) (v : Byte) : (s.setY v).p = s.p := rfl
@[simp] theorem State.setY_cycles (s : State) (v : Byte) : (s.setY v).cycles = s.cycles := rfl
@[simp] theorem State.setY_totalCycles (s : State) (v : Byte) : (s.setY v).totalCycles = s.totalCycles := rfl
@[simp] theorem State.setY_halted (s : State) (v : Byte) : (s.setY v).halted = s.halted := rfl
@[simp] theorem State.setY_cpuRam (s : State) (v : Byte) : (s.setY v).cpuRam = s.cpuRam := rfl
@[simp] theorem State.setY_ppuRegs (s : State) (v : Byte) : (s.setY v).ppuRegs = s.ppuRegs := rfl
@[simp] theorem State.setY_apuRegs (s : State) (v : Byte) : (s.setY v).apuRegs = s.apuRegs := rfl
@[simp] theorem State.setY_cart (s : State) (v : Byte) : (s.setY v).cart = s.cart := rfl
@[simp] theorem State.setY_dot (s : State) (v : Byte) : (s.setY v).dot = s.dot := rfl
@[simp] theorem State.setY_scanline (s : State) (v : Byte) : (s.setY v).scanline = s.scanline := rfl
@[simp] theorem State.setY_frameCount (s : State) (v : Byte) : (s.setY v).frameCount = s.frameCount := rfl
@[simp] theorem State.setY_frameBuffer (s : State) (v : Byte) : (s.setY v).frameBuffer = s.frameBuffer := rfl
@[simp] theorem State.setY_tick (s : State) (v : Byte) : (s.setY v).tick = s.tick := rfl

@[simp] theorem State.setP_a (s : State) (v : Byte) : (s.setP v).a = s.a := rfl
@[simp] theorem State.setP_x (s : State) (v : Byte) : (s.setP v).x = s.x := rfl
@[simp] theorem State.setP_y (s : State) (v : Byte) : (s.setP v).y = s.y := rfl
@[simp] theorem State.setP_sp (s : State) (v : Byte) : (s.setP v).sp = s.sp := rfl
@[simp] theorem State.setP_pc (s : State) (v : Byte) : (s.setP v).pc = s.pc := rfl
@[simp] theorem State.setP_p (s : State) (v : Byte) : (s.setP v).p = v := rfl
@[simp] theorem State.setP_cycles (s : State) (v : Byte) : (s.setP v).cycles = s.cycles := rfl
@[simp] theorem State.setP_totalCycles (s : State) (v : Byte) : (s.setP v).totalCycles = s.totalCycles := rfl
@[simp] theorem State.setP_halted (s : State) (v : Byte) : (s.setP v).halted = s.halted := rfl
@[simp] theorem State.setP_cpuRam (s : State) (v : Byte) : (s.setP v).cpuRam = s.cpuRam := rfl
@[simp] theorem State.setP_ppuRegs (s : State) (v : Byte) : (s.setP v).ppuRegs = s.ppuRegs := rfl
@[simp] theorem State.setP_apuRegs (s : State) (v : Byte) : (s.setP v).apuRegs = s.apuRegs := rfl
@[simp] theorem State.setP_cart (s : State) (v : Byte) : (s.setP v).cart = s.cart := rfl
@[simp] theorem State.setP_dot (s : State) (v : Byte) : (s.setP v).dot = s.dot := rfl
@[simp] theorem State.setP_scanline (s : State) (v : Byte) : (s.setP v).scanline = s.scanline := rfl
@[simp] theorem State.setP_frameCount (s : State) (v : Byte) : (s.setP v).frameCount = s.frameCount := rfl
@[simp] theorem State.setP_frameBuffer (s : State) (v : Byte) : (s.setP v).frameBuffer = s.frameBuffer := rfl
@[simp] theorem State.setP_tick (s : State) (v : Byte) : (s.setP v).tick = s.tick := rfl

@[simp] theorem State.setPC_a (s : State) (t : Word) : (s.setPC t).a = s.a := rfl
@[simp] theorem State.setPC_x (s : State) (t : Word) : (s.setPC t).x = s.x := rfl
@[simp] theorem State.setPC_y (s : State) (t : Word) : (s.setPC t).y = s.y := rfl
@[simp] theorem State.setPC_sp (s : State) (t : Word) : (s.setPC t).sp = s.sp := rfl
@[simp] theorem State.setPC_pc (s : State) (t : Word) : (s.setPC t).pc = t := rfl
@[simp] theorem State.setPC_p (s : State) (t : Word) : (s.setPC t).p = s.p := rfl
@[simp] theorem State.setPC_cycles (s : State) (t : Word) : (s.setPC t).cycles = s.cycles := rfl
@[simp] theorem State.setPC_totalCycles (s : State) (t : Word) : (s.setPC t).totalCycles = s.totalCycles := rfl
@[simp] theorem State.setPC_halted (s : State) (t : Word) : (s.setPC t).halted = s.halted := rfl
@[simp] theorem State.setPC_cpuRam (s : State) (t : Word) : (s.setPC t).cpuRam = s.cpuRam := rfl
@[simp] theorem State.setPC_ppuRegs (s : State) (t : Word) : (s.setPC t).ppuRegs = s.ppuRegs := rfl
@[simp] theorem State.setPC_apuRegs (s : State) (t : Word) : (s.setPC t).apuRegs = s.apuRegs := rfl
@[simp] theorem State.setPC_cart (s : State) (t : Word) : (s.setPC t).cart = s.cart := rfl
@[simp] theorem State.setPC_dot (s : State) (t : Word) : (s.setPC t).dot = s.dot := rfl
@[simp] theorem State.setPC_scanline (s : State) (t : Word) : (s.setPC t).scanline = s.scanline := rfl
@[simp] theorem State.setPC_frameCount (s : State) (t : Word) : (s.setPC t).frameCount = s.frameCount := rfl
@[simp] theorem State.setPC_frameBuffer (s : State) (t : Word) : (s.setPC t).frameBuffer = s.frameBuffer := rfl
@[simp] theorem State.setPC_tick (s : State) (t : Word) : (s.setPC t).tick = s.tick := rfl

@[simp] theorem State.advancePC_a (s : State) (n : Nat) : (s.advancePC n).a = s.a := rfl
@[simp] theorem State.advancePC_x (s : State) (n : Nat) : (s.advancePC n).x = s.x := rfl
@[simp] theorem State.advancePC_y (s : State) (n : Nat) : (s.advancePC n).y = s.y := rfl
@[simp] theorem State.advancePC_sp (s : State) (n : Nat) : (s.advancePC n).sp = s.sp := rfl
@[simp] theorem State.advancePC_pc (s : State) (n : Nat) : (s.advancePC n).pc = s.pc + BitVec.ofNat 16 n := rfl
@[simp] theorem State.advancePC_p (s : State) (n : Nat) : (s.advancePC n).p = s.p := rfl
@[simp] theorem State.advancePC_cycles (s : State) (n : Nat) : (s.advancePC n).cycles = s.cycles := rfl
@[simp] theorem State.advancePC_totalCycles (s : State) (n : Nat) : (s.advancePC n).totalCycles = s.totalCycles := rfl
@[simp] theorem State.advancePC_halted (s : State) (n : Nat) : (s.advancePC n).halted = s.halted := rfl
@[simp] theorem State.advancePC_cpuRam (s : State) (n : Nat) : (s.advancePC n).cpuRam = s.cpuRam := rfl
@[simp] theorem State.advancePC_ppuRegs (s : State) (n : Nat) : (s.advancePC n).ppuRegs = s.ppuRegs := rfl
@[simp] theorem State.advancePC_apuRegs (s : State) (n : Nat) : (s.advancePC n).apuRegs = s.apuRegs := rfl
@[simp] theorem State.advancePC_cart (s : State) (n : Nat) : (s.advancePC n).cart = s.cart := rfl
@[simp] theorem State.advancePC_dot (s : State) (n : Nat) : (s.advancePC n).dot = s.dot := rfl
@[simp] theorem State.advancePC_scanline (s : State) (n : Nat) : (s.advancePC n).scanline = s.scanline := rfl
@[simp] theorem State.advancePC_frameCount (s : State) (n : Nat) : (s.advancePC n).frameCount = s.frameCount := rfl
@[simp] theorem State.advancePC_frameBuffer (s : State) (n : Nat) : (s.advancePC n).frameBuffer = s.frameBuffer := rfl
@[simp] theorem State.advancePC_tick (s : State) (n : Nat) : (s.advancePC n).tick = s.tick := rfl

@[simp] theorem State.setZN_a (s : State) (v : Byte) : (s.setZN v).a = s.a := rfl
@[simp] theorem State.setZN_x (s : State) (v : Byte) : (s.setZN v).x = s.x := rfl
@[simp] theorem State.setZN_y (s : State) (v : Byte) : (s.setZN v).y = s.y := rfl
@[simp] theorem State.setZN_sp (s : State) (v : Byte) : (s.setZN v).sp = s.sp := rfl
@[simp] theorem State.setZN_pc (s : State) (v : Byte) : (s.setZN v).pc = s.pc := rfl
@[simp] theorem State.setZN_p (s : State) (v : Byte) : (s.setZN v).p = znFlags s.p v := rfl
@[simp] theorem State.setZN_cycles (s : State) (v : Byte) : (s.setZN v).cycles = s.cycles := rfl
@[simp] theorem State.setZN_totalCycles (s : State) (v : Byte) : (s.setZN v).totalCycles = s.totalCycles := rfl
@[simp] theorem State.setZN_halted (s : State) (v : Byte) : (s.setZN v).halted = s.halted := rfl
@[simp] theorem State.setZN_cpuRam (s : State) (v : Byte) : (s.setZN v).cpuRam = s.cpuRam := rfl
@[simp] theorem State.setZN_ppuRegs (s : State) (v : Byte) : (s.setZN v).ppuRegs = s.ppuRegs := rfl
@[simp] theorem State.setZN_apuRegs (s : State) (v : Byte) : (s.setZN v).apuRegs = s.apuRegs := rfl
@[simp] theorem State.setZN_cart (s : State) (v : Byte) : (s.setZN v).cart = s.cart := rfl
@[simp] theorem State.setZN_dot (s : State) (v : Byte) : (s.setZN v).dot = s.dot := rfl
@[simp] theorem State.setZN_scanline (s : State) (v : Byte) : (s.setZN v).scanline = s.scanline := rfl
@[simp] theorem State.setZN_frameCount (s : State) (v : Byte) : (s.setZN v).frameCount = s.frameCount := rfl
@[simp] theorem State.setZN_frameBuffer (s : State) (v : Byte) : (s.setZN v).frameBuffer = s.frameBuffer := rfl
@[simp] theorem State.setZN_tick (s : State) (v : Byte) : (s.setZN v).tick = s.tick := rfl

@[simp] theorem State.charge_a (s : State) (n : Nat) : (s.charge n).a = s.a := rfl
@[simp] theorem State.charge_x (s : State) (n : Nat) : (s.charge n).x = s.x := rfl
@[simp] theorem State.charge_y (s : State) (n : Nat) : (s.charge n).y = s.y := rfl
@[simp] theorem State.charge_sp (s : State) (n : Nat) : (s.charge n).sp = s.sp := rfl
@[simp] theorem State.charge_pc (s : State) (n : Nat) : (s.charge n).pc = s.pc := rfl
@[simp] theorem State.charge_p (s : State) (n : Nat) : (s.charge n).p = s.p := rfl
@[simp] theorem State.charge_cycles (s : State) (n : Nat) : (s.charge n).cycles = s.cycles + n := rfl
@[simp] theorem State.charge_totalCycles (s : State) (n : Nat) : (s.charge n).totalCycles = s.totalCycles + (s.cycles + n) := rfl
@[simp] theorem State.charge_halted (s : State) (n : Nat) : (s.charge n).halted = s.halted := rfl
@[simp] theorem State.charge_cpuRam (s : State) (n : Nat) : (s.charge n).cpuRam = s.cpuRam := rfl
@[simp] theorem State.charge_ppuRegs (s : State) (n : Nat) : (s.charge n).ppuRegs = s.ppuRegs := rfl
@[simp] theorem State.charge_apuRegs (s : State) (n : Nat) : (s.charge n).apuRegs = s.apuRegs := rfl
@[simp] theorem State.charge_cart (s : State) (n : Nat) : (s.charge n).cart = s.cart := rfl
@[simp] theorem State.charge_dot (s : State) (n : Nat) : (s.charge n).dot = s.dot := rfl
@[simp] theorem State.charge_scanline (s : State) (n : Nat) : (s.charge n).scanline = s.scanline := rfl
@[simp] theorem State.charge_frameCount (s : State) (n : Nat) : (s.charge n).frameCount = s.frameCount := rfl
@[simp] theorem State.charge_frameBuffer (s : State) (n : Nat) : (s.charge n).frameBuffer = s.frameBuffer := rfl
@[simp] theorem State.charge_tick (s : State) (n : Nat) : (s.charge n).tick = s.tick := rfl

@[simp] theorem State.halt_a (s : State) : s.halt.a = s.a := rfl
@[simp] theorem State.halt_x (s : State) : s.halt.x = s.x := rfl
@[simp] theorem State.halt_y (s : State) : s.halt.y = s.y := rfl
@[simp] theorem State.halt_sp (s : State) : s.halt.sp = s.sp := rfl
@[simp] theorem State.halt_pc (s : State) : s.halt.pc = s.pc := rfl
@[simp] theorem State.halt_p (s : State) : s.halt.p = s.p := rfl
@[simp] theorem State.halt_cycles (s : State) : s.halt.cycles = s.cycles := rfl
@[simp] theorem State.halt_totalCycles (s : State) : s.halt.totalCycles = s.totalCycles := rfl
@[simp] theorem State.halt_halted (s : State) : s.halt.halted = true := rfl
@[simp] theorem State.halt_cpuRam (s : State) : s.halt.cpuRam = s.cpuRam := rfl
@[simp] theorem State.halt_ppuRegs (s : State) : s.halt.ppuRegs = s.ppuRegs := rfl
@[simp] theorem State.halt_apuRegs (s : State) : s.halt.apuRegs = s.apuRegs := rfl
@[simp] theorem State.halt_cart (s : State) : s.halt.cart = s.cart := rfl
@[simp] theorem State.halt_dot (s : State) : s.halt.dot = s.dot := rfl
@[simp] theorem State.halt_scanline (s : State) : s.halt.scanline = s.scanline := rfl
@[simp] theorem State.halt_frameCount (s : State) : s.halt.frameCount = s.frameCount := rfl
@[simp] theorem State.halt_frameBuffer (s : State) : s.halt.frameBuffer = s.frameBuffer := rfl
@[simp] theorem State.halt_tick (s : State) : s.halt.tick = s.tick := rfl

@[simp] theorem State.setPicture_a (s : State) (d l f : Nat) : (s.setPicture d l f).a = s.a := rfl
@[simp] theorem State.setPicture_x (s : State) (d l f : Nat) : (s.setPicture d l f).x = s.x := rfl
@[simp] theorem State.setPicture_y (s : State) (d l f : Nat) : (s.setPicture d l f).y = s.y := rfl
@[simp] theorem State.setPicture_sp (s : State) (d l f : Nat) : (s.setPicture d l f).sp = s.sp := rfl
@[simp] theorem State.setPicture_pc (s : State) (d l f : Nat) : (s.setPicture d l f).pc = s.pc := rfl
@[simp] theorem State.setPicture_p (s : State) (d l f : Nat) : (s.setPicture d l f).p = s.p := rfl
@[simp] theorem State.setPicture_cycles (s : State) (d l f : Nat) : (s.setPicture d l f).cycles = s.cycles := rfl
@[simp] theorem State.setPicture_totalCycles (s : State) (d l f : Nat) : (s.setPicture d l f).totalCycles = s.totalCycles := rfl
@[simp] theorem State.setPicture_halted (s : State) (d l f : Nat) : (s.setPicture d l f).halted = s.halted := rfl
@[simp] theorem State.setPicture_cpuRam (s : State) (d l f : Nat) : (s.setPicture d l f).cpuRam = s.cpuRam := rfl
@[simp] theorem State.setPicture_ppuRegs (s : State) (d l f : Nat) : (s.setPicture d l f).ppuRegs = s.ppuRegs := rfl
@[simp] theorem State.setPicture_apuRegs (s : State) (d l f : Nat) : (s.setPicture d l f).apuRegs = s.apuRegs := rfl
@[simp] theorem State.setPicture_cart (s : State) (d l f : Nat) : (s.setPicture d l f).cart = s.cart := rfl
@[simp] theorem State.setPicture_dot (s : State) (d l f : Nat) : (s.setPicture d l f).dot = d := rfl
@[simp] theorem State.setPicture_scanline (s : State) (d l f : Nat) : (s.setPicture d l f).scanline = l := rfl
@[simp] theorem State.setPicture_frameCount (s : State) (d l f : Nat) : (s.setPicture d l f).frameCount = f := rfl
@[simp] theorem State.setPicture_frameBuffer (s : State) (d l f : Nat) : (s.setPicture d l f).frameBuffer = s.frameBuffer := rfl
@[simp] theorem State.setPicture_tick (s : State) (d l f : Nat) : (s.setPicture d l f).tick = s.tick := rfl

@[simp] theorem cpuReset_a (c : Cartridge) (s : State) : (cpuReset c s).a = 0x00 := rfl
@[simp] theorem cpuReset_x (c : Cartridge) (s : State) : (cpuReset c s).x = 0x00 := rfl
@[simp] theorem cpuReset_y (c : Cartridge) (s : State) : (cpuReset c s).y = 0x00 := rfl
@[simp] theorem cpuReset_sp (c : Cartridge) (s : State) : (cpuReset c s).sp = 0xFD := rfl
@[simp] theorem cpuReset_pc (c : Cartridge) (s : State) : (cpuReset c s).pc = memRead2 c s 0xFFFC := rfl
@[simp] theorem cpuReset_p (c : Cartridge) (s : State) : (cpuReset c s).p = 0x24 := rfl
@[simp] theorem cpuReset_cycles (c : Cartridge) (s : State) : (cpuReset c s).cycles = 7 := rfl
@[simp] theorem cpuReset_totalCycles (c : Cartridge) (s : State) : (cpuReset c s).totalCycles = 0 := rfl
@[simp] theorem cpuReset_halted (c : Cartridge) (s : State) : (cpuReset c s).halted = false := rfl
@[simp] theorem cpuReset_cpuRam (c : Cartridge) (s : State) : (cpuReset c s).cpuRam = s.cpuRam := rfl
@[simp] theorem cpuReset_ppuRegs (c : Cartridge) (s : State) : (cpuReset c s).ppuRegs = s.ppuRegs := rfl
@[simp] theorem cpuReset_apuRegs (c : Cartridge) (s : State) : (cpuReset c s).apuRegs = s.apuRegs := rfl
@[simp] theorem cpuReset_cart (c : Cartridge) (s : State) : (cpuReset c s).cart = s.cart := rfl
@[simp] theorem cpuReset_dot (c : Cartridge) (s : State) : (cpuReset c s).dot = s.dot := rfl
@[simp] theorem cpuReset_scanline (c : Cartridge) (s : State) : (cpuReset c s).scanline = s.scanline := rfl
@[simp] theorem cpuReset_frameCount (c : Cartridge) (s : State) : (cpuReset c s).frameCount = s.frameCount := rfl
@[simp] theorem cpuReset_frameBuffer (c : Cartridge) (s : State) : (cpuReset c s).frameBuffer = s.frameBuffer := rfl
@[simp] theorem cpuReset_tick (c : Cartridge) (s : State) : (cpuReset c s).tick = s.tick := rfl

@[simp] theorem consoleResetOn_a (c : Cartridge) (s : State) : (consoleResetOn c s).a = 0x00 := rfl
@[simp] theorem consoleResetOn_x (c : Cartridge) (s : State) : (consoleResetOn c s).x = 0x00 := rfl
@[simp] theorem consoleResetOn_y (c : Cartridge) (s : State) : (consoleResetOn c s).y = 0x00 := rfl
@[simp] theorem consoleResetOn_sp (c : Cartridge) (s : State) : (consoleResetOn c s).sp = 0xFD := rfl
@[simp] theorem consoleResetOn_pc (c : Cartridge) (s : State) : (consoleResetOn c s).pc = memRead2 c s 0xFFFC := rfl
@[simp] theorem consoleResetOn_p (c : Cartridge) (s : State) : (consoleResetOn c s).p = 0x24 := rfl
@[simp] theorem consoleResetOn_cycles (c : Cartridge) (s : State) : (consoleResetOn c s).cycles = 7 := rfl
@[simp] theorem consoleResetOn_totalCycles (c : Cartridge) (s : State) : (consoleResetOn c s).totalCycles = 0 := rfl
@[simp] theorem consoleResetOn_halted (c : Cartridge) (s : State) : (consoleResetOn c s).halted = false := rfl
@[simp] theorem consoleResetOn_cpuRam (c : Cartridge) (s : State) : (consoleResetOn c s).cpuRam = s.cpuRam := rfl
@[simp] theorem consoleResetOn_ppuRegs (c : Cartridge) (s : State) : (consoleResetOn c s).ppuRegs = s.ppuRegs := rfl
@[simp] theorem consoleResetOn_apuRegs (c : Cartridge) (s : State) : (consoleResetOn c s).apuRegs = s.apuRegs := rfl
@[simp] theorem consoleResetOn_cart (c : Cartridge) (s : State) : (consoleResetOn c s).cart = s.cart := rfl
@[simp] theorem consoleResetOn_dot (c : Cartridge) (s : State) : (consoleResetOn c s).dot = s.dot := rfl
@[simp] theorem consoleResetOn_scanline (c : Cartridge) (s : State) : (consoleResetOn c s).scanline = s.scanline := rfl
@[simp] theorem consoleResetOn_frameCount (c : Cartridge) (s : State) : (consoleResetOn c s).frameCount = 0 := rfl
@[simp] theorem consoleResetOn_frameBuffer (c : Cartridge) (s : State) : (consoleResetOn c s).frameBuffer = s.frameBuffer := rfl
@[simp] theorem consoleResetOn_tick (c : Cartridge) (s : State) : (consoleResetOn c s).tick = 0 := rfl

@[simp] theorem installCart_a (c : Cartridge) (s : State) : (installCart c s).a = s.a := rfl
@[simp] theorem installCart_x (c : Cartridge) (s : State) : (installCart c s).x = s.x := rfl
@[simp] theorem installCart_y (c : Cartridge) (s : State) : (installCart c s).y = s.y := rfl
@[simp] theorem installCart_sp (c : Cartridge) (s : State) : (installCart c s).sp = s.sp := rfl
@[simp] theorem installCart_pc (c : Cartridge) (s : State) : (installCart c s).pc = s.pc := rfl
@[simp] theorem installCart_p (c : Cartridge) (s : State) : (installCart c s).p = s.p := rfl
@[simp] theorem installCart_cycles (c : Cartridge) (s : State) : (installCart c s).cycles = s.cycles := rfl
@[simp] theorem installCart_totalCycles (c : Cartridge) (s : State) : (installCart c s).totalCycles = s.totalCycles := rfl
@[simp] theorem installCart_halted (c : Cartridge) (s : State) : (installCart c s).halted = s.halted := rfl
@[simp] theorem installCart_cpuRam (c : Cartridge) (s : State) : (installCart c s).cpuRam = [] := rfl
@[simp] theorem installCart_ppuRegs (c : Cartridge) (s : State) : (installCart c s).ppuRegs = [] := rfl
@[simp] theorem installCart_apuRegs (c : Cartridge) (s : State) : (installCart c s).apuRegs = [] := rfl
@[simp] theorem installCart_cart (c : Cartridge) (s : State) : (installCart c s).cart = some c := rfl
@[simp] theorem installCart_dot (c : Cartridge) (s : State) : (installCart c s).dot = s.dot := rfl
@[simp] theorem installCart_scanline (c : Cartridge) (s : State) : (installCart c s).scanline = s.scanline := rfl
@[simp] theorem installCart_frameCount (c : Cartridge) (s : State) : (installCart c s).frameCount = s.frameCount := rfl
@[simp] theorem installCart_frameBuffer (c : Cartridge) (s : State) : (installCart c s).frameBuffer = s.frameBuffer := rfl
@[simp] theorem installCart_tick (c : Cartridge) (s : State) : (installCart c s).tick = s.tick := rfl

@[simp] theorem finishFrame_a (s : State) : (finishFrame s).a = s.a := rfl
@[simp] theorem finishFrame_x (s : State) : (finishFrame s).x = s.x := rfl
@[simp] theorem finishFrame_y (s : State) : (finishFrame s).y = s.y := rfl
@[simp] theorem finishFrame_sp (s : State) : (finishFrame s).sp = s.sp := rfl
@[simp] theorem finishFrame_pc (s : State) : (finishFrame s).pc = s.pc := rfl
@[simp] theorem finishFrame_p (s : State) : (finishFrame s).p = s.p := rfl
@[simp] theorem finishFrame_cycles (s : State) : (finishFrame s).cycles = s.cycles := rfl
@[simp] theorem finishFrame_totalCycles (s : State) : (finishFrame s).totalCycles = s.totalCycles := rfl
@[simp] theorem finishFrame_halted (s : State) : (finishFrame s).halted = s.halted := rfl
@[simp] theorem finishFrame_cpuRam (s : State) : (finishFrame s).cpuRam = s.cpuRam := rfl
@[simp] theorem finishFrame_ppuRegs (s : State) : (finishFrame s).ppuRegs = s.ppuRegs := rfl
@[simp] theorem finishFrame_apuRegs (s : State) : (finishFrame s).apuRegs = s.apuRegs := rfl
@[simp] theorem finishFrame_cart (s : State) : (finishFrame s).cart = s.cart := rfl
@[simp] theorem finishFrame_dot (s : State) : (finishFrame s).dot = s.dot := rfl
@[simp] theorem finishFrame_scanline (s : State) : (finishFrame s).scanline = s.scanline := rfl
@[simp] theorem finishFrame_frameCount (s : State) : (finishFrame s).frameCount = s.frameCount := rfl
@[simp] theorem finishFrame_frameBuffer (s : State) : (finishFrame s).frameBuffer = renderFrame (s.tick + 1) := rfl
@[simp] theorem finishFrame_tick (s : State) : (finishFrame s).tick = s.tick + 1 := rfl

/-! `BusWrite` writes the three stores of the Bus and no other field (R62). -/

@[simp] theorem busWrite_a (s : State) (addr v : Nat) : (busWrite s addr v).a = s.a := by
  unfold busWrite; split <;> rfl
@[simp] theorem busWrite_x (s : State) (addr v : Nat) : (busWrite s addr v).x = s.x := by
  unfold busWrite; split <;> rfl
@[simp] theorem busWrite_y (s : State) (addr v : Nat) : (busWrite s addr v).y = s.y := by
  unfold busWrite; split <;> rfl
@[simp] theorem busWrite_sp (s : State) (addr v : Nat) : (busWrite s addr v).sp = s.sp := by
  unfold busWrite; split <;> rfl
@[simp] theorem busWrite_pc (s : State) (addr v : Nat) : (busWrite s addr v).pc = s.pc := by
  unfold busWrite; split <;> rfl
@[simp] theorem busWrite_p (s : State) (addr v : Nat) : (busWrite s addr v).p = s.p := by
  unfold busWrite; split <;> rfl
@[simp] theorem busWrite_cycles (s : State) (addr v : Nat) : (busWrite s addr v).cycles = s.cycles := by
  unfold busWrite; split <;> rfl
@[simp] theorem busWrite_totalCycles (s : State) (addr v : Nat) : (busWrite s addr v).totalCycles = s.totalCycles := by
  unfold busWrite; split <;> rfl
@[simp] theorem busWrite_halted (s : State) (addr v : Nat) : (busWrite s addr v).halted = s.halted := by
  unfold busWrite; split <;> rfl
@[simp] theorem busWrite_cart (s : State) (addr v : Nat) : (busWrite s addr v).cart = s.cart := by
  unfold busWrite; split <;> rfl
@[simp] theorem busWrite_dot (s : State) (addr v : Nat) : (busWrite s addr v).dot = s.dot := by
  unfold busWrite; split <;> rfl
@[simp] theorem busWrite_scanline (s : State) (addr v : Nat) : (busWrite s addr v).scanline = s.scanline := by
  unfold busWrite; split <;> rfl
@[simp] theorem busWrite_frameCount (s : State) (addr v : Nat) : (busWrite s addr v).frameCount = s.frameCount := by
  unfold busWrite; split <;> rfl
@[simp] theorem busWrite_frameBuffer (s : State) (addr v : Nat) : (busWrite s addr v).frameBuffer = s.frameBuffer := by
  unfold busWrite; split <;> rfl
@[simp] theorem busWrite_tick (s : State) (addr v : Nat) : (busWrite s addr v).tick = s.tick := by
  unfold busWrite; split <;> rfl

@[simp] theorem memWrite_a (s : State) (addr : Word) (v : Byte) : (memWrite s addr v).a = s.a := busWrite_a s _ _
@[simp] theorem memWrite_x (s : State) (addr : Word) (v : Byte) : (memWrite s addr v).x = s.x := busWrite_x s _ _
@[simp] theorem memWrite_y (s : State) (addr : Word) (v : Byte) : (memWrite s addr v).y = s.y := busWrite_y s _ _
@[simp] theorem memWrite_sp (s : State) (addr : Word) (v : Byte) : (memWrite s addr v).sp = s.sp := busWrite_sp s _ _
@[simp] theorem memWrite_pc (s : State) (addr : Word) (v : Byte) : (memWrite s addr v).pc = s.pc := busWrite_pc s _ _
@[simp] theorem memWrite_p (s : State) (addr : Word) (v : Byte) : (memWrite s addr v).p = s.p := busWrite_p s _ _
@[simp] theorem memWrite_cycles (s : State) (addr : Word) (v : Byte) : (memWrite s addr v).cycles = s.cycles := busWrite_cycles s _ _
@[simp] theorem memWrite_totalCycles (s : State) (addr : Word) (v : Byte) : (memWrite s addr v).totalCycles = s.totalCycles := busWrite_totalCycles s _ _
@[simp] theorem memWrite_halted (s : State) (addr : Word) (v : Byte) : (memWrite s addr v).halted = s.halted := busWrite_halted s _ _
@[simp] theorem memWrite_cart (s : State) (addr : Word) (v : Byte) : (memWrite s addr v).cart = s.cart := busWrite_cart s _ _
@[simp] theorem memWrite_dot (s : State) (addr : Word) (v : Byte) : (memWrite s addr v).dot = s.dot := busWrite_dot s _ _
@[simp] theorem memWrite_scanline (s : State) (addr : Word) (v : Byte) : (memWrite s addr v).scanline = s.scanline := busWrite_scanline s _ _
@[simp] theorem memWrite_frameCount (s : State) (addr : Word) (v : Byte) : (memWrite s addr v).frameCount = s.frameCount := busWrite_frameCount s _ _
@[simp] theorem memWrite_frameBuffer (s : State) (addr : Word) (v : Byte) : (memWrite s addr v).frameBuffer = s.frameBuffer := busWrite_frameBuffer s _ _
@[simp] theorem memWrite_tick (s : State) (addr : Word) (v : Byte) : (memWrite s addr v).tick = s.tick := busWrite_tick s _ _

end Sys2Proof.Machine
end

