-- ==== Sys2Proof/Laws/Bus.lean ====
section
/-! SUPPORT. The Bus: where its addresses land, what a read returns after a write, and what a write keeps. -/

namespace Sys2Proof.Machine

/-- RAM and its mirrors (R60, R64). -/
theorem busTarget_lo {addr : Nat} (h : addr % 0x10000 < 0x2000) :
    busTarget addr = .ram (addr % 0x10000 % 0x0800) := by
  simp only [busTarget, h, if_true]

/-- The PPU register window (R60, R65). -/
theorem busTarget_ppuWindow {addr : Nat} (h : 0x2000 ≤ addr % 0x10000) (h' : addr % 0x10000 < 0x4000) :
    busTarget addr = .ppu (addr % 0x10000 % 8) := by
  simp only [busTarget, Nat.not_lt.2 h, h', if_true, if_false]

/-- The part of the APU window with storage (R60, R66). -/
theorem busTarget_apuWindow {addr : Nat} (h : 0x4000 ≤ addr % 0x10000) (h' : addr % 0x10000 < 0x4018) :
    busTarget addr = .apu (addr % 0x10000 - 0x4000) := by
  have h1 : ¬ addr % 0x10000 < 0x2000 := by omega
  have h2 : addr % 0x10000 < 0x4000 + Config.apuRegsSize := h'
  simp only [busTarget, h1, h2, Nat.not_lt.2 h, if_true, if_false]

/-- Addresses with nothing behind them (R60, R66, R67). -/
theorem busTarget_hole {addr : Nat} (h : 0x4018 ≤ addr % 0x10000) (h' : addr % 0x10000 < 0x8000) :
    busTarget addr = .unmapped := by
  have h1 : ¬ addr % 0x10000 < 0x2000 := by omega
  have h2 : ¬ addr % 0x10000 < 0x4000 := by omega
  have h3 : ¬ addr % 0x10000 < 0x4000 + Config.apuRegsSize := Nat.not_lt.2 h
  simp only [busTarget, h1, h2, h3, h', if_true, if_false, ite_self]

/-- The PRG window (R60, R68). -/
theorem busTarget_prgWindow {addr : Nat} (h : 0x8000 ≤ addr % 0x10000) :
    busTarget addr = .prg (addr % 0x10000 - 0x8000) := by
  have h1 : ¬ addr % 0x10000 < 0x2000 := by omega
  have h2 : ¬ addr % 0x10000 < 0x4000 := by omega
  have h3 : ¬ addr % 0x10000 < 0x4000 + Config.apuRegsSize := Nat.not_lt.2 (by simp only [Config.apuRegsSize]; omega)
  have h4 : ¬ addr % 0x10000 < 0x4020 := by omega
  simp only [busTarget, h1, h2, h3, h4, Nat.not_lt.2 h, if_false]

/-- Where an address lands: every case, each index within its store. -/
theorem busTarget_range (addr : Nat) :
    (∃ i, busTarget addr = .ram i ∧ i < Config.cpuRamSize) ∨
    (∃ i, busTarget addr = .ppu i ∧ i < Config.ppuRegsSize) ∨
    (∃ i, busTarget addr = .apu i ∧ i < Config.apuRegsSize) ∨
    busTarget addr = .unmapped ∨
    (∃ o, busTarget addr = .prg o ∧ o < 0x8000) := by
  have hlt : addr % 0x10000 < 0x10000 := Nat.mod_lt _ (by omega)
  by_cases h1 : addr % 0x10000 < 0x2000
  · exact .inl ⟨_, busTarget_lo h1, by simp only [Config.cpuRamSize]; omega⟩
  by_cases h2 : addr % 0x10000 < 0x4000
  · exact .inr (.inl ⟨_, busTarget_ppuWindow (by omega) h2, by simp only [Config.ppuRegsSize]; omega⟩)
  by_cases h3 : addr % 0x10000 < 0x4018
  · exact .inr (.inr (.inl ⟨_, busTarget_apuWindow (by omega) h3, by simp only [Config.apuRegsSize]; omega⟩))
  by_cases h4 : addr % 0x10000 < 0x8000
  · exact .inr (.inr (.inr (.inl (busTarget_hole (by omega) h4))))
  · exact .inr (.inr (.inr (.inr ⟨_, busTarget_prgWindow (by omega), by omega⟩)))

/-- Everything a Bus write can do: one write in one of the three stores, or nothing (R62). -/
theorem busWrite_cases (s : State) (addr v : Nat) :
    (∃ i, busTarget addr = .ram i ∧
        busWrite s addr v = { s with cpuRam := s.cpuRam.write i (BitVec.ofNat 8 v) }) ∨
    (∃ i, busTarget addr = .ppu i ∧
        busWrite s addr v = { s with ppuRegs := s.ppuRegs.write i (BitVec.ofNat 8 v) }) ∨
    (∃ i, busTarget addr = .apu i ∧
        busWrite s addr v = { s with apuRegs := s.apuRegs.write i (BitVec.ofNat 8 v) }) ∨
    ((busTarget addr = .unmapped ∨ ∃ offset, busTarget addr = .prg offset) ∧ busWrite s addr v = s) := by
  unfold busWrite
  cases h : busTarget addr with
  | ram i => exact .inl ⟨i, rfl, rfl⟩
  | ppu i => exact .inr (.inl ⟨i, rfl, rfl⟩)
  | apu i => exact .inr (.inr (.inl ⟨i, rfl, rfl⟩))
  | unmapped => exact .inr (.inr (.inr ⟨.inl rfl, rfl⟩))
  | prg offset => exact .inr (.inr (.inr ⟨.inr ⟨offset, rfl⟩, rfl⟩))

/-- The zero-page address of an operand is RAM at that index (R165). -/
theorem busTarget_zeroPage (zp : Byte) : busTarget (zeroPage zp).toNat = .ram zp.toNat := by
  have h := zp.isLt
  have hz : (zeroPage zp).toNat = zp.toNat := by
    simp only [zeroPage, BitVec.toNat_setWidth]; omega
  have h1 : zp.toNat % 0x10000 = zp.toNat := by omega
  have h2 : zp.toNat < 0x2000 := by omega
  have h3 : zp.toNat % 0x0800 = zp.toNat := by omega
  simp only [hz, busTarget, h1, h2, h3, if_true]

/-- A zero-page store writes that byte of RAM (R165). -/
theorem memWrite_zeroPage (s : State) (zp v : Byte) :
    memWrite s (zeroPage zp) v = { s with cpuRam := s.cpuRam.write zp.toNat v } := by
  simp [memWrite, busWrite, busTarget_zeroPage]

/-- A Bus read looks at the three stores only. -/
theorem busRead_congr {c : Cartridge} {s t : State} (hr : t.cpuRam = s.cpuRam) (hp : t.ppuRegs = s.ppuRegs)
    (ha : t.apuRegs = s.apuRegs) (addr : Nat) : busRead c t addr = busRead c s addr := by
  simp only [busRead, hr, hp, ha]

/-- What the loaded cartridge is. -/
theorem loadedCart_ok {s : State} {c : Cartridge} : loadedCart s = .ok c ↔ s.cart = some c ∧ c.prgSize ≠ 0 := by
  unfold loadedCart
  cases h : s.cart with
  | none => simp
  | some d =>
    by_cases hd : d.prgSize = 0
    · simp only [hd, if_true]
      constructor
      · intro h; cases h
      · rintro ⟨h, hc⟩; injection h with h; exact absurd (h ▸ hd) hc
    · simp only [hd, if_false, Except.ok.injEq, Option.some.injEq]
      constructor
      · rintro rfl; exact ⟨rfl, hd⟩
      · exact fun h => h.1

end Sys2Proof.Machine
end

