-- ==== Sys2Proof/Laws/Exec.lean ====
section
/-! SUPPORT. What an instruction can do, said once: every meaning is one of these next states. -/

namespace Sys2Proof.Machine

/-- The fifteen opcode bytes of R124. -/
def assignedOpcodes : List Byte :=
  [0xEA, 0xA9, 0xA2, 0xA0, 0x85, 0x86, 0x84, 0xAA, 0xA8, 0xE8, 0xC8, 0xCA, 0x88, 0x4C, 0x00]

/-- The next state of an instruction, in the shared operations: sixteen shapes over all 256 instructions, the
last that of every unassigned opcode. -/
theorem exec_cases (i : Instr) (s : State) :
    (i = .nop ∧ exec i s = .next ((s.advancePC 1).charge 2)) ∨
    (∃ v, i = .lda v ∧ exec i s = .next ((((s.advancePC 2).setA v).setZN v).charge 2)) ∨
    (∃ v, i = .ldx v ∧ exec i s = .next ((((s.advancePC 2).setX v).setZN v).charge 2)) ∨
    (∃ v, i = .ldy v ∧ exec i s = .next ((((s.advancePC 2).setY v).setZN v).charge 2)) ∨
    (∃ z, i = .sta z ∧ exec i s = .next ((memWrite (s.advancePC 2) (zeroPage z) s.a).charge 3)) ∨
    (∃ z, i = .stx z ∧ exec i s = .next ((memWrite (s.advancePC 2) (zeroPage z) s.x).charge 3)) ∨
    (∃ z, i = .sty z ∧ exec i s = .next ((memWrite (s.advancePC 2) (zeroPage z) s.y).charge 3)) ∨
    (i = .tax ∧ exec i s = .next ((((s.advancePC 1).setX s.a).setZN s.a).charge 2)) ∨
    (i = .tay ∧ exec i s = .next ((((s.advancePC 1).setY s.a).setZN s.a).charge 2)) ∨
    (i = .inx ∧ exec i s = .next ((((s.advancePC 1).setX (s.x + 1)).setZN (s.x + 1)).charge 2)) ∨
    (i = .iny ∧ exec i s = .next ((((s.advancePC 1).setY (s.y + 1)).setZN (s.y + 1)).charge 2)) ∨
    (i = .dex ∧ exec i s = .next ((((s.advancePC 1).setX (s.x + 255)).setZN (s.x + 255)).charge 2)) ∨
    (i = .dey ∧ exec i s = .next ((((s.advancePC 1).setY (s.y + 255)).setZN (s.y + 255)).charge 2)) ∨
    (∃ lo hi, i = .jmp lo hi ∧ exec i s = .next (((s.advancePC 3).setPC (absTarget lo hi)).charge 3)) ∨
    (i = .brk ∧ exec i s = .next ((s.advancePC 1).halt.charge 7)) ∨
    (i.opcode ∉ assignedOpcodes ∧ encode i = [i.opcode] ∧ ∀ u, exec i u = .next ((u.advancePC 1).charge 2)) := by
  cases i
  case nop => exact .inl ⟨rfl, rfl⟩
  case lda v => exact .inr (.inl ⟨v, rfl, rfl⟩)
  case ldx v => exact .inr (.inr (.inl ⟨v, rfl, rfl⟩))
  case ldy v => exact .inr (.inr (.inr (.inl ⟨v, rfl, rfl⟩)))
  case sta z => exact .inr (.inr (.inr (.inr (.inl ⟨z, rfl, rfl⟩))))
  case stx z => exact .inr (.inr (.inr (.inr (.inr (.inl ⟨z, rfl, rfl⟩)))))
  case sty z => exact .inr (.inr (.inr (.inr (.inr (.inr (.inl ⟨z, rfl, rfl⟩))))))
  case tax => exact .inr (.inr (.inr (.inr (.inr (.inr (.inr (.inl ⟨rfl, rfl⟩)))))))
  case tay => exact .inr (.inr (.inr (.inr (.inr (.inr (.inr (.inr (.inl ⟨rfl, rfl⟩))))))))
  case inx => exact .inr (.inr (.inr (.inr (.inr (.inr (.inr (.inr (.inr (.inl ⟨rfl, rfl⟩)))))))))
  case iny => exact .inr (.inr (.inr (.inr (.inr (.inr (.inr (.inr (.inr (.inr (.inl ⟨rfl, rfl⟩))))))))))
  case dex => exact .inr (.inr (.inr (.inr (.inr (.inr (.inr (.inr (.inr (.inr (.inr (.inl ⟨rfl, rfl⟩)))))))))))
  case dey =>
    exact .inr (.inr (.inr (.inr (.inr (.inr (.inr (.inr (.inr (.inr (.inr (.inr (.inl ⟨rfl, rfl⟩))))))))))))
  case jmp lo hi =>
    exact .inr (.inr (.inr (.inr (.inr (.inr (.inr (.inr (.inr (.inr (.inr (.inr (.inr (.inl
      ⟨lo, hi, rfl, rfl⟩)))))))))))))
  case brk =>
    exact .inr (.inr (.inr (.inr (.inr (.inr (.inr (.inr (.inr (.inr (.inr (.inr (.inr (.inr (.inl
      ⟨rfl, rfl⟩))))))))))))))
  all_goals
    exact .inr (.inr (.inr (.inr (.inr (.inr (.inr (.inr (.inr (.inr (.inr (.inr (.inr (.inr (.inr
      ⟨by decide, rfl, fun _ => rfl⟩))))))))))))))

/-- What a step can do: refuse for want of a cartridge, count one cycle when HALTED, or run the fetched
instruction. -/
theorem step_cases (s : State) :
    (∃ r, loadedCart s = .error r ∧ step s = .refused r) ∨
    (∃ c, Loaded c s ∧ s.halted = true ∧ step s = .next (haltedStep s)) ∨
    (∃ c, Loaded c s ∧ s.halted = false ∧ step s = exec (fetchInstr c s) s) := by
  unfold step
  cases h : loadedCart s with
  | error r => exact .inl ⟨r, rfl, rfl⟩
  | ok c =>
    have hl : Loaded c s := loadedCart_ok.1 h
    cases hh : s.halted with
    | true => exact .inr (.inl ⟨c, hl, rfl, rfl⟩)
    | false => exact .inr (.inr ⟨c, hl, rfl, rfl⟩)

end Sys2Proof.Machine
end

