-- ==== Sys2Proof/Laws/Console.lean ====
section
/-! SUPPORT. What a timing step, a round of the frame loop and a call of the host can do, said once. -/

namespace Sys2Proof.Machine

/-- A timing step writes the PictureUnit's three counters and nothing else (R230). -/
theorem pictureStep_cases (s : State) : ∃ dot scanline frameCount : Nat,
    pictureStep s = s.setPicture dot scanline frameCount := by
  unfold pictureStep
  split
  · split <;> exact ⟨_, _, _, rfl⟩
  · exact ⟨_, _, _, rfl⟩

/-- A round of the frame loop is a CPU step and three timing steps (R236). -/
theorem frameBody_next {s t : State} (h : step s = .next t) :
    frameBody s = .next (pictureStep (pictureStep (pictureStep t))) := by
  simp only [frameBody, h]
  rfl

/-- What a call on the Bus answers comes from the loaded cartridge (R49). -/
theorem onBus_next {s t : State} {f : Cartridge → State} (h : onBus s f = .next t) :
    ∃ c, Loaded c s ∧ t = f c := by
  unfold onBus at h
  split at h
  · cases h
  · rename_i c hc
    injection h with h
    exact ⟨c, loadedCart_ok.1 hc, h.symm⟩

/-- A reply adds nothing to the state. -/
theorem replying_next {o : Host.Outcome State Fault Refusal} {f : State → Reply} {t : State} {r : Reply}
    (h : replying o f = .next (t, r)) : o = .next t := by
  unfold replying at h
  split at h
  · injection h with h
    injection h with h _
    rw [h]
  · cases h
  · cases h

/-- A successful `loadRom` installs the cartridge and resets; a failed one leaves the state (R264, R265). -/
theorem loadRom_next {file : Option (List Byte)} {s t : State} {e : Except LoadError Unit}
    (h : loadRom file s = .next (t, e)) :
    (∃ err, load file = .error err ∧ e = .error err ∧ t = s) ∨
    (∃ c, load file = .ok c ∧ c.prgSize ≠ 0 ∧ e = .ok () ∧ t = consoleResetOn c (installCart c s)) := by
  unfold loadRom at h
  cases hf : load file with
  | error err =>
    rw [hf] at h
    injection h with h
    injection h with h1 h2
    exact .inl ⟨err, rfl, h2.symm, h1.symm⟩
  | ok c =>
    rw [hf] at h
    by_cases h0 : c.prgSize = 0
    · simp [consoleReset, onBus, loadedCart, installCart, h0] at h
    · have hc : consoleReset (installCart c s) = .next (consoleResetOn c (installCart c s)) := by
        simp only [consoleReset, onBus, loadedCart_ok.2 (⟨rfl, h0⟩ : Loaded c (installCart c s))]
      simp only [hc] at h
      injection h with h
      injection h with h1 h2
      exact .inr ⟨c, rfl, h0, h2.symm, h1.symm⟩

/-- What a call of the host can leave: the state as it was, or one of the seven transitions. -/
theorem hostCall_cases {k : Call} {s t : State} {r : Reply} (h : hostCall k s = .next (t, r)) :
    t = s ∨
    (∃ file c, k = .loadRom file ∧ load file = .ok c ∧ c.prgSize ≠ 0 ∧ t = consoleResetOn c (installCart c s)) ∨
    (∃ c, k = .reset ∧ Loaded c s ∧ t = consoleResetOn c s) ∨
    (k = .stepFrame ∧ stepFrame s = .next t) ∨
    (k = .cpuStep ∧ step s = .next t) ∨
    (∃ c, k = .cpuReset ∧ Loaded c s ∧ t = cpuReset c s) ∨
    (∃ addr value, k = .busWrite addr value ∧ t = busWrite s addr value) ∨
    (k = .pictureStep ∧ t = pictureStep s) := by
  cases k with
  | loadRom file =>
    simp only [hostCall] at h
    cases hl : loadRom file s with
    | fault f => cases f
    | refused q => rw [hl] at h; cases h
    | next u =>
      obtain ⟨u, e⟩ := u
      obtain ⟨err, _, rfl, rfl⟩ | ⟨c, hc, h0, rfl, rfl⟩ := loadRom_next hl
      · rw [hl] at h; injection h with h; injection h with h _; exact .inl h.symm
      · rw [hl] at h; injection h with h; injection h with h _
        exact .inr (.inl ⟨file, c, rfl, hc, h0, h.symm⟩)
  | reset =>
    obtain ⟨c, hc, e⟩ := onBus_next (replying_next h)
    exact .inr (.inr (.inl ⟨c, rfl, hc, e⟩))
  | stepFrame => exact .inr (.inr (.inr (.inl ⟨rfl, replying_next h⟩)))
  | cpuStep => exact .inr (.inr (.inr (.inr (.inl ⟨rfl, replying_next h⟩))))
  | cpuReset =>
    obtain ⟨c, hc, e⟩ := onBus_next (replying_next h)
    exact .inr (.inr (.inr (.inr (.inr (.inl ⟨c, rfl, hc, e⟩)))))
  | busRead addr =>
    simp only [hostCall] at h
    split at h
    · cases h
    · injection h with h; injection h with h _; exact .inl h.symm
  | busWrite addr value =>
    obtain ⟨c, _, e⟩ := onBus_next (replying_next h)
    exact .inr (.inr (.inr (.inr (.inr (.inr (.inl ⟨addr, value, rfl, e⟩))))))
  | pictureStep =>
    injection h with h
    injection h with h _
    exact .inr (.inr (.inr (.inr (.inr (.inr (.inr ⟨rfl, h.symm⟩))))))
  | renderFrame tick =>
    injection h with h
    injection h with h _
    exact .inl h.symm

end Sys2Proof.Machine
end

