-- ==== Sys2Proof/Laws/Decode.lean ====
section
/-! SUPPORT. The opcode grid, said once: what it holds for each opcode byte. -/

namespace Sys2Proof

/-- The number of operand bytes the grid gives an opcode is that of R120. -/
theorem formOf_operands : ∀ op : Byte, (formOf op).operands = operandCount op := by decide

/-- A decoded byte string splits into the opcode, its operands and the rest. -/
theorem decode_ok {bs : List Byte} {i : Instr} {rest : List Byte} (h : decode bs = .ok (i, rest)) :
    ∃ op ops, bs = op :: ops ∧ operandCount op ≤ ops.length ∧
      i = (formOf op).build (fun k => ops.getD k 0) ∧ rest = ops.drop (operandCount op) := by
  cases bs with
  | nil => cases h
  | cons op ops =>
    simp only [decode, formOf_operands] at h
    split at h
    · rename_i hle
      injection h with h
      exact ⟨op, ops, rfl, hle, (congrArg Prod.fst h).symm, (congrArg Prod.snd h).symm⟩
    · cases h

end Sys2Proof
end

