-- ==== Sys2Proof/Laws/PerInstr.lean ====
section
/-! SUPPORT. Facts about every instruction as syntax, one lemma per constructor. -/

/-- The encoded form of an instruction (spec/30_encoding.md R120, R123): its opcode byte first, then as many
operand bytes as that opcode calls for. -/
def Sys2Proof.Laws.EncodedForm.Statement (i : Sys2Proof.Instr) : Prop :=
  (Sys2Proof.encode i).head? = some i.opcode ∧
    (Sys2Proof.encode i).length = 1 + Sys2Proof.operandCount i.opcode

namespace Sys2Proof.Laws.EncodedForm

theorem brk : Statement .brk := ⟨rfl, rfl⟩
theorem unassigned01 : Statement .unassigned01 := ⟨rfl, rfl⟩
theorem unassigned02 : Statement .unassigned02 := ⟨rfl, rfl⟩
theorem unassigned03 : Statement .unassigned03 := ⟨rfl, rfl⟩
theorem unassigned04 : Statement .unassigned04 := ⟨rfl, rfl⟩
theorem unassigned05 : Statement .unassigned05 := ⟨rfl, rfl⟩
theorem unassigned06 : Statement .unassigned06 := ⟨rfl, rfl⟩
theorem unassigned07 : Statement .unassigned07 := ⟨rfl, rfl⟩
theorem unassigned08 : Statement .unassigned08 := ⟨rfl, rfl⟩
theorem unassigned09 : Statement .unassigned09 := ⟨rfl, rfl⟩
theorem unassigned0A : Statement .unassigned0A := ⟨rfl, rfl⟩
theorem unassigned0B : Statement .unassigned0B := ⟨rfl, rfl⟩
theorem unassigned0C : Statement .unassigned0C := ⟨rfl, rfl⟩
theorem unassigned0D : Statement .unassigned0D := ⟨rfl, rfl⟩
theorem unassigned0E : Statement .unassigned0E := ⟨rfl, rfl⟩
theorem unassigned0F : Statement .unassigned0F := ⟨rfl, rfl⟩
theorem unassigned10 : Statement .unassigned10 := ⟨rfl, rfl⟩
theorem unassigned11 : Statement .unassigned11 := ⟨rfl, rfl⟩
theorem unassigned12 : Statement .unassigned12 := ⟨rfl, rfl⟩
theorem unassigned13 : Statement .unassigned13 := ⟨rfl, rfl⟩
theorem unassigned14 : Statement .unassigned14 := ⟨rfl, rfl⟩
theorem unassigned15 : Statement .unassigned15 := ⟨rfl, rfl⟩
theorem unassigned16 : Statement .unassigned16 := ⟨rfl, rfl⟩
theorem unassigned17 : Statement .unassigned17 := ⟨rfl, rfl⟩
theorem unassigned18 : Statement .unassigned18 := ⟨rfl, rfl⟩
theorem unassigned19 : Statement .unassigned19 := ⟨rfl, rfl⟩
theorem unassigned1A : Statement .unassigned1A := ⟨rfl, rfl⟩
theorem unassigned1B : Statement .unassigned1B := ⟨rfl, rfl⟩
theorem unassigned1C : Statement .unassigned1C := ⟨rfl, rfl⟩
theorem unassigned1D : Statement .unassigned1D := ⟨rfl, rfl⟩
theorem unassigned1E : Statement .unassigned1E := ⟨rfl, rfl⟩
theorem unassigned1F : Statement .unassigned1F := ⟨rfl, rfl⟩
theorem unassigned20 : Statement .unassigned20 := ⟨rfl, rfl⟩
theorem unassigned21 : Statement .unassigned21 := ⟨rfl, rfl⟩
theorem unassigned22 : Statement .unassigned22 := ⟨rfl, rfl⟩
theorem unassigned23 : Statement .unassigned23 := ⟨rfl, rfl⟩
theorem unassigned24 : Statement .unassigned24 := ⟨rfl, rfl⟩
theorem unassigned25 : Statement .unassigned25 := ⟨rfl, rfl⟩
theorem unassigned26 : Statement .unassigned26 := ⟨rfl, rfl⟩
theorem unassigned27 : Statement .unassigned27 := ⟨rfl, rfl⟩
theorem unassigned28 : Statement .unassigned28 := ⟨rfl, rfl⟩
theorem unassigned29 : Statement .unassigned29 := ⟨rfl, rfl⟩
theorem unassigned2A : Statement .unassigned2A := ⟨rfl, rfl⟩
theorem unassigned2B : Statement .unassigned2B := ⟨rfl, rfl⟩
theorem unassigned2C : Statement .unassigned2C := ⟨rfl, rfl⟩
theorem unassigned2D : Statement .unassigned2D := ⟨rfl, rfl⟩
theorem unassigned2E : Statement .unassigned2E := ⟨rfl, rfl⟩
theorem unassigned2F : Statement .unassigned2F := ⟨rfl, rfl⟩
theorem unassigned30 : Statement .unassigned30 := ⟨rfl, rfl⟩
theorem unassigned31 : Statement .unassigned31 := ⟨rfl, rfl⟩
theorem unassigned32 : Statement .unassigned32 := ⟨rfl, rfl⟩
theorem unassigned33 : Statement .unassigned33 := ⟨rfl, rfl⟩
theorem unassigned34 : Statement .unassigned34 := ⟨rfl, rfl⟩
theorem unassigned35 : Statement .unassigned35 := ⟨rfl, rfl⟩
theorem unassigned36 : Statement .unassigned36 := ⟨rfl, rfl⟩
theorem unassigned37 : Statement .unassigned37 := ⟨rfl, rfl⟩
theorem unassigned38 : Statement .unassigned38 := ⟨rfl, rfl⟩
theorem unassigned39 : Statement .unassigned39 := ⟨rfl, rfl⟩
theorem unassigned3A : Statement .unassigned3A := ⟨rfl, rfl⟩
theorem unassigned3B : Statement .unassigned3B := ⟨rfl, rfl⟩
theorem unassigned3C : Statement .unassigned3C := ⟨rfl, rfl⟩
theorem unassigned3D : Statement .unassigned3D := ⟨rfl, rfl⟩
theorem unassigned3E : Statement .unassigned3E := ⟨rfl, rfl⟩
theorem unassigned3F : Statement .unassigned3F := ⟨rfl, rfl⟩
theorem unassigned40 : Statement .unassigned40 := ⟨rfl, rfl⟩
theorem unassigned41 : Statement .unassigned41 := ⟨rfl, rfl⟩
theorem unassigned42 : Statement .unassigned42 := ⟨rfl, rfl⟩
theorem unassigned43 : Statement .unassigned43 := ⟨rfl, rfl⟩
theorem unassigned44 : Statement .unassigned44 := ⟨rfl, rfl⟩
theorem unassigned45 : Statement .unassigned45 := ⟨rfl, rfl⟩
theorem unassigned46 : Statement .unassigned46 := ⟨rfl, rfl⟩
theorem unassigned47 : Statement .unassigned47 := ⟨rfl, rfl⟩
theorem unassigned48 : Statement .unassigned48 := ⟨rfl, rfl⟩
theorem unassigned49 : Statement .unassigned49 := ⟨rfl, rfl⟩
theorem unassigned4A : Statement .unassigned4A := ⟨rfl, rfl⟩
theorem unassigned4B : Statement .unassigned4B := ⟨rfl, rfl⟩
theorem jmp (lo hi : Byte) : Statement (.jmp lo hi) := ⟨rfl, rfl⟩
theorem unassigned4D : Statement .unassigned4D := ⟨rfl, rfl⟩
theorem unassigned4E : Statement .unassigned4E := ⟨rfl, rfl⟩
theorem unassigned4F : Statement .unassigned4F := ⟨rfl, rfl⟩
theorem unassigned50 : Statement .unassigned50 := ⟨rfl, rfl⟩
theorem unassigned51 : Statement .unassigned51 := ⟨rfl, rfl⟩
theorem unassigned52 : Statement .unassigned52 := ⟨rfl, rfl⟩
theorem unassigned53 : Statement .unassigned53 := ⟨rfl, rfl⟩
theorem unassigned54 : Statement .unassigned54 := ⟨rfl, rfl⟩
theorem unassigned55 : Statement .unassigned55 := ⟨rfl, rfl⟩
theorem unassigned56 : Statement .unassigned56 := ⟨rfl, rfl⟩
theorem unassigned57 : Statement .unassigned57 := ⟨rfl, rfl⟩
theorem unassigned58 : Statement .unassigned58 := ⟨rfl, rfl⟩
theorem unassigned59 : Statement .unassigned59 := ⟨rfl, rfl⟩
theorem unassigned5A : Statement .unassigned5A := ⟨rfl, rfl⟩
theorem unassigned5B : Statement .unassigned5B := ⟨rfl, rfl⟩
theorem unassigned5C : Statement .unassigned5C := ⟨rfl, rfl⟩
theorem unassigned5D : Statement .unassigned5D := ⟨rfl, rfl⟩
theorem unassigned5E : Statement .unassigned5E := ⟨rfl, rfl⟩
theorem unassigned5F : Statement .unassigned5F := ⟨rfl, rfl⟩
theorem unassigned60 : Statement .unassigned60 := ⟨rfl, rfl⟩
theorem unassigned61 : Statement .unassigned61 := ⟨rfl, rfl⟩
theorem unassigned62 : Statement .unassigned62 := ⟨rfl, rfl⟩
theorem unassigned63 : Statement .unassigned63 := ⟨rfl, rfl⟩
theorem unassigned64 : Statement .unassigned64 := ⟨rfl, rfl⟩
theorem unassigned65 : Statement .unassigned65 := ⟨rfl, rfl⟩
theorem unassigned66 : Statement .unassigned66 := ⟨rfl, rfl⟩
theorem unassigned67 : Statement .unassigned67 := ⟨rfl, rfl⟩
theorem unassigned68 : Statement .unassigned68 := ⟨rfl, rfl⟩
theorem unassigned69 : Statement .unassigned69 := ⟨rfl, rfl⟩
theorem unassigned6A : Statement .unassigned6A := ⟨rfl, rfl⟩
theorem unassigned6B : Statement .unassigned6B := ⟨rfl, rfl⟩
theorem unassigned6C : Statement .unassigned6C := ⟨rfl, rfl⟩
theorem unassigned6D : Statement .unassigned6D := ⟨rfl, rfl⟩
theorem unassigned6E : Statement .unassigned6E := ⟨rfl, rfl⟩
theorem unassigned6F : Statement .unassigned6F := ⟨rfl, rfl⟩
theorem unassigned70 : Statement .unassigned70 := ⟨rfl, rfl⟩
theorem unassigned71 : Statement .unassigned71 := ⟨rfl, rfl⟩
theorem unassigned72 : Statement .unassigned72 := ⟨rfl, rfl⟩
theorem unassigned73 : Statement .unassigned73 := ⟨rfl, rfl⟩
theorem unassigned74 : Statement .unassigned74 := ⟨rfl, rfl⟩
theorem unassigned75 : Statement .unassigned75 := ⟨rfl, rfl⟩
theorem unassigned76 : Statement .unassigned76 := ⟨rfl, rfl⟩
theorem unassigned77 : Statement .unassigned77 := ⟨rfl, rfl⟩
theorem unassigned78 : Statement .unassigned78 := ⟨rfl, rfl⟩
theorem unassigned79 : Statement .unassigned79 := ⟨rfl, rfl⟩
theorem unassigned7A : Statement .unassigned7A := ⟨rfl, rfl⟩
theorem unassigned7B : Statement .unassigned7B := ⟨rfl, rfl⟩
theorem unassigned7C : Statement .unassigned7C := ⟨rfl, rfl⟩
theorem unassigned7D : Statement .unassigned7D := ⟨rfl, rfl⟩
theorem unassigned7E : Statement .unassigned7E := ⟨rfl, rfl⟩
theorem unassigned7F : Statement .unassigned7F := ⟨rfl, rfl⟩
theorem unassigned80 : Statement .unassigned80 := ⟨rfl, rfl⟩
theorem unassigned81 : Statement .unassigned81 := ⟨rfl, rfl⟩
theorem unassigned82 : Statement .unassigned82 := ⟨rfl, rfl⟩
theorem unassigned83 : Statement .unassigned83 := ⟨rfl, rfl⟩
theorem sty (zp : Byte) : Statement (.sty zp) := ⟨rfl, rfl⟩
theorem sta (zp : Byte) : Statement (.sta zp) := ⟨rfl, rfl⟩
theorem stx (zp : Byte) : Statement (.stx zp) := ⟨rfl, rfl⟩
theorem unassigned87 : Statement .unassigned87 := ⟨rfl, rfl⟩
theorem dey : Statement .dey := ⟨rfl, rfl⟩
theorem unassigned89 : Statement .unassigned89 := ⟨rfl, rfl⟩
theorem unassigned8A : Statement .unassigned8A := ⟨rfl, rfl⟩
theorem unassigned8B : Statement .unassigned8B := ⟨rfl, rfl⟩
theorem unassigned8C : Statement .unassigned8C := ⟨rfl, rfl⟩
theorem unassigned8D : Statement .unassigned8D := ⟨rfl, rfl⟩
theorem unassigned8E : Statement .unassigned8E := ⟨rfl, rfl⟩
theorem unassigned8F : Statement .unassigned8F := ⟨rfl, rfl⟩
theorem unassigned90 : Statement .unassigned90 := ⟨rfl, rfl⟩
theorem unassigned91 : Statement .unassigned91 := ⟨rfl, rfl⟩
theorem unassigned92 : Statement .unassigned92 := ⟨rfl, rfl⟩
theorem unassigned93 : Statement .unassigned93 := ⟨rfl, rfl⟩
theorem unassigned94 : Statement .unassigned94 := ⟨rfl, rfl⟩
theorem unassigned95 : Statement .unassigned95 := ⟨rfl, rfl⟩
theorem unassigned96 : Statement .unassigned96 := ⟨rfl, rfl⟩
theorem unassigned97 : Statement .unassigned97 := ⟨rfl, rfl⟩
theorem unassigned98 : Statement .unassigned98 := ⟨rfl, rfl⟩
theorem unassigned99 : Statement .unassigned99 := ⟨rfl, rfl⟩
theorem unassigned9A : Statement .unassigned9A := ⟨rfl, rfl⟩
theorem unassigned9B : Statement .unassigned9B := ⟨rfl, rfl⟩
theorem unassigned9C : Statement .unassigned9C := ⟨rfl, rfl⟩
theorem unassigned9D : Statement .unassigned9D := ⟨rfl, rfl⟩
theorem unassigned9E : Statement .unassigned9E := ⟨rfl, rfl⟩
theorem unassigned9F : Statement .unassigned9F := ⟨rfl, rfl⟩
theorem ldy (imm : Byte) : Statement (.ldy imm) := ⟨rfl, rfl⟩
theorem unassignedA1 : Statement .unassignedA1 := ⟨rfl, rfl⟩
theorem ldx (imm : Byte) : Statement (.ldx imm) := ⟨rfl, rfl⟩
theorem unassignedA3 : Statement .unassignedA3 := ⟨rfl, rfl⟩
theorem unassignedA4 : Statement .unassignedA4 := ⟨rfl, rfl⟩
theorem unassignedA5 : Statement .unassignedA5 := ⟨rfl, rfl⟩
theorem unassignedA6 : Statement .unassignedA6 := ⟨rfl, rfl⟩
theorem unassignedA7 : Statement .unassignedA7 := ⟨rfl, rfl⟩
theorem tay : Statement .tay := ⟨rfl, rfl⟩
theorem lda (imm : Byte) : Statement (.lda imm) := ⟨rfl, rfl⟩
theorem tax : Statement .tax := ⟨rfl, rfl⟩
theorem unassignedAB : Statement .unassignedAB := ⟨rfl, rfl⟩
theorem unassignedAC : Statement .unassignedAC := ⟨rfl, rfl⟩
theorem unassignedAD : Statement .unassignedAD := ⟨rfl, rfl⟩
theorem unassignedAE : Statement .unassignedAE := ⟨rfl, rfl⟩
theorem unassignedAF : Statement .unassignedAF := ⟨rfl, rfl⟩
theorem unassignedB0 : Statement .unassignedB0 := ⟨rfl, rfl⟩
theorem unassignedB1 : Statement .unassignedB1 := ⟨rfl, rfl⟩
theorem unassignedB2 : Statement .unassignedB2 := ⟨rfl, rfl⟩
theorem unassignedB3 : Statement .unassignedB3 := ⟨rfl, rfl⟩
theorem unassignedB4 : Statement .unassignedB4 := ⟨rfl, rfl⟩
theorem unassignedB5 : Statement .unassignedB5 := ⟨rfl, rfl⟩
theorem unassignedB6 : Statement .unassignedB6 := ⟨rfl, rfl⟩
theorem unassignedB7 : Statement .unassignedB7 := ⟨rfl, rfl⟩
theorem unassignedB8 : Statement .unassignedB8 := ⟨rfl, rfl⟩
theorem unassignedB9 : Statement .unassignedB9 := ⟨rfl, rfl⟩
theorem unassignedBA : Statement .unassignedBA := ⟨rfl, rfl⟩
theorem unassignedBB : Statement .unassignedBB := ⟨rfl, rfl⟩
theorem unassignedBC : Statement .unassignedBC := ⟨rfl, rfl⟩
theorem unassignedBD : Statement .unassignedBD := ⟨rfl, rfl⟩
theorem unassignedBE : Statement .unassignedBE := ⟨rfl, rfl⟩
theorem unassignedBF : Statement .unassignedBF := ⟨rfl, rfl⟩
theorem unassignedC0 : Statement .unassignedC0 := ⟨rfl, rfl⟩
theorem unassignedC1 : Statement .unassignedC1 := ⟨rfl, rfl⟩
theorem unassignedC2 : Statement .unassignedC2 := ⟨rfl, rfl⟩
theorem unassignedC3 : Statement .unassignedC3 := ⟨rfl, rfl⟩
theorem unassignedC4 : Statement .unassignedC4 := ⟨rfl, rfl⟩
theorem unassignedC5 : Statement .unassignedC5 := ⟨rfl, rfl⟩
theorem unassignedC6 : Statement .unassignedC6 := ⟨rfl, rfl⟩
theorem unassignedC7 : Statement .unassignedC7 := ⟨rfl, rfl⟩
theorem iny : Statement .iny := ⟨rfl, rfl⟩
theorem unassignedC9 : Statement .unassignedC9 := ⟨rfl, rfl⟩
theorem dex : Statement .dex := ⟨rfl, rfl⟩
theorem unassignedCB : Statement .unassignedCB := ⟨rfl, rfl⟩
theorem unassignedCC : Statement .unassignedCC := ⟨rfl, rfl⟩
theorem unassignedCD : Statement .unassignedCD := ⟨rfl, rfl⟩
theorem unassignedCE : Statement .unassignedCE := ⟨rfl, rfl⟩
theorem unassignedCF : Statement .unassignedCF := ⟨rfl, rfl⟩
theorem unassignedD0 : Statement .unassignedD0 := ⟨rfl, rfl⟩
theorem unassignedD1 : Statement .unassignedD1 := ⟨rfl, rfl⟩
theorem unassignedD2 : Statement .unassignedD2 := ⟨rfl, rfl⟩
theorem unassignedD3 : Statement .unassignedD3 := ⟨rfl, rfl⟩
theorem unassignedD4 : Statement .unassignedD4 := ⟨rfl, rfl⟩
theorem unassignedD5 : Statement .unassignedD5 := ⟨rfl, rfl⟩
theorem unassignedD6 : Statement .unassignedD6 := ⟨rfl, rfl⟩
theorem unassignedD7 : Statement .unassignedD7 := ⟨rfl, rfl⟩
theorem unassignedD8 : Statement .unassignedD8 := ⟨rfl, rfl⟩
theorem unassignedD9 : Statement .unassignedD9 := ⟨rfl, rfl⟩
theorem unassignedDA : Statement .unassignedDA := ⟨rfl, rfl⟩
theorem unassignedDB : Statement .unassignedDB := ⟨rfl, rfl⟩
theorem unassignedDC : Statement .unassignedDC := ⟨rfl, rfl⟩
theorem unassignedDD : Statement .unassignedDD := ⟨rfl, rfl⟩
theorem unassignedDE : Statement .unassignedDE := ⟨rfl, rfl⟩
theorem unassignedDF : Statement .unassignedDF := ⟨rfl, rfl⟩
theorem unassignedE0 : Statement .unassignedE0 := ⟨rfl, rfl⟩
theorem unassignedE1 : Statement .unassignedE1 := ⟨rfl, rfl⟩
theorem unassignedE2 : Statement .unassignedE2 := ⟨rfl, rfl⟩
theorem unassignedE3 : Statement .unassignedE3 := ⟨rfl, rfl⟩
theorem unassignedE4 : Statement .unassignedE4 := ⟨rfl, rfl⟩
theorem unassignedE5 : Statement .unassignedE5 := ⟨rfl, rfl⟩
theorem unassignedE6 : Statement .unassignedE6 := ⟨rfl, rfl⟩
theorem unassignedE7 : Statement .unassignedE7 := ⟨rfl, rfl⟩
theorem inx : Statement .inx := ⟨rfl, rfl⟩
theorem unassignedE9 : Statement .unassignedE9 := ⟨rfl, rfl⟩
theorem nop : Statement .nop := ⟨rfl, rfl⟩
theorem unassignedEB : Statement .unassignedEB := ⟨rfl, rfl⟩
theorem unassignedEC : Statement .unassignedEC := ⟨rfl, rfl⟩
theorem unassignedED : Statement .unassignedED := ⟨rfl, rfl⟩
theorem unassignedEE : Statement .unassignedEE := ⟨rfl, rfl⟩
theorem unassignedEF : Statement .unassignedEF := ⟨rfl, rfl⟩
theorem unassignedF0 : Statement .unassignedF0 := ⟨rfl, rfl⟩
theorem unassignedF1 : Statement .unassignedF1 := ⟨rfl, rfl⟩
theorem unassignedF2 : Statement .unassignedF2 := ⟨rfl, rfl⟩
theorem unassignedF3 : Statement .unassignedF3 := ⟨rfl, rfl⟩
theorem unassignedF4 : Statement .unassignedF4 := ⟨rfl, rfl⟩
theorem unassignedF5 : Statement .unassignedF5 := ⟨rfl, rfl⟩
theorem unassignedF6 : Statement .unassignedF6 := ⟨rfl, rfl⟩
theorem unassignedF7 : Statement .unassignedF7 := ⟨rfl, rfl⟩
theorem unassignedF8 : Statement .unassignedF8 := ⟨rfl, rfl⟩
theorem unassignedF9 : Statement .unassignedF9 := ⟨rfl, rfl⟩
theorem unassignedFA : Statement .unassignedFA := ⟨rfl, rfl⟩
theorem unassignedFB : Statement .unassignedFB := ⟨rfl, rfl⟩
theorem unassignedFC : Statement .unassignedFC := ⟨rfl, rfl⟩
theorem unassignedFD : Statement .unassignedFD := ⟨rfl, rfl⟩
theorem unassignedFE : Statement .unassignedFE := ⟨rfl, rfl⟩
theorem unassignedFF : Statement .unassignedFF := ⟨rfl, rfl⟩

end Sys2Proof.Laws.EncodedForm
end

