-- ==== Sys2Proof/Tests/Slice0.lean ====
section
/-! SUPPORT. Tests of the model: expected values are those of spec/95_test_vectors.md (named in each
docstring), or written out by hand from a rule. The last part shows, for every statement with hypotheses,
concrete values that meet them. -/

namespace Sys2Proof.Tests

open Sys2Proof.Machine

/-! ### Fixtures -/

/-- A 16 KiB image with `prog` at PRG offset 0 and the reset vector `0x8000`: fixture F1 of
95_test_vectors.md part 2 with zeros as filler. -/
def image (prog : List Byte) : Cartridge where
  prgRom := Memory.ofBytes prog ++ [(0x3FFD, 0x80)]
  chrRom := []
  mapperId := 0
  prgSize := 16384
  chrSize := 0

/-- A 32 KiB image with the given bytes at `0xFFFC` to `0xFFFF`: image W of 95_test_vectors.md section 4.9. -/
def imageW (b0 b1 b2 b3 : Byte) : Cartridge where
  prgRom := Memory.ofBytesFrom 0x7FFC [b0, b1, b2, b3]
  chrRom := []
  mapperId := 0
  prgSize := 32768
  chrSize := 0

/-- A cartridge of the given PRG size whose bytes are all zero. -/
def zeros (prgSize : Nat) : Cartridge where
  prgRom := []
  chrRom := []
  mapperId := 0
  prgSize := prgSize
  chrSize := 0

/-- The state after the Console's reset with cartridge `c` on a fresh Bus. -/
def started (c : Cartridge) : State := consoleResetOn c (installCart c State.reset)

/-- The end state of program P1 (95_test_vectors.md part 9). -/
def endOfP1 : State :=
  { started (image [0xA9, 0x42, 0xEA, 0x00]) with
    a := 0x42, pc := 0x8004, cycles := 18, totalCycles := 38, halted := true }

/-- What the vectors show of a state: `A X Y P`, `PC`, `cycles`, `totalCycles`, `halted`. -/
def shown (o : Host.Outcome State Fault Refusal) :
    Option ((Byte × Byte × Byte × Byte) × Word × Nat × Nat × Bool) :=
  match o with
  | .next t => some ((t.a, t.x, t.y, t.p), t.pc, t.cycles, t.totalCycles, t.halted)
  | .fault _ => none
  | .refused _ => none

/-- One field of the next state. -/
def after {α : Type} (o : Host.Outcome State Fault Refusal) (f : State → α) : Option α :=
  match o with
  | .next t => some (f t)
  | .fault _ => none
  | .refused _ => none

/-- A file of an iNES image: the header `H(p, c, f6, f7)` of 95_test_vectors.md part 6 and the data. -/
def file (p c f6 f7 : Byte) (data : List Byte) : List Byte :=
  [0x4E, 0x45, 0x53, 0x1A, p, c, f6, f7, 0, 0, 0, 0, 0, 0, 0, 0] ++ data

/-! ### Well-formedness and decoding -/

/-- R120: no bytes at all hold no instruction. -/
theorem test_empty_code_is_ill_formed : codeWellFormed [] = false ∧ decode [] = .error .noOpcode := by decide

/-- R120: an immediate instruction without its operand is ill formed, and refused by name. -/
theorem test_missing_immediate_is_ill_formed :
    codeWellFormed [0xA9] = false ∧ decode [0xA9] = .error (.missingOperand 0xA9) := by decide

/-- R120: a jump with one operand byte is ill formed, and refused by name. -/
theorem test_short_jump_is_ill_formed :
    codeWellFormed [0x4C, 0x05] = false ∧ decode [0x4C, 0x05] = .error (.missingOperand 0x4C) := by decide

/-- R120, R127: with the operand byte there, whatever it is, the string is well formed. -/
theorem test_whole_store_is_well_formed : codeWellFormed [0x85, 0xFF] = true ∧ codeWellFormed [0x02] = true := by
  decide

/-- R124, implied formats: the opcode column, bit by bit. -/
theorem test_decode_implied :
    decode [0b11101010#8] = .ok (.nop, []) ∧ decode [0b10101010#8] = .ok (.tax, []) ∧
    decode [0b10101000#8] = .ok (.tay, []) ∧ decode [0b11101000#8] = .ok (.inx, []) ∧
    decode [0b11001000#8] = .ok (.iny, []) ∧ decode [0b11001010#8] = .ok (.dex, []) ∧
    decode [0b10001000#8] = .ok (.dey, []) ∧ decode [0b00000000#8] = .ok (.brk, []) := by decide

/-- R124, immediate formats. -/
theorem test_decode_immediate :
    decode [0b10101001#8, 0b01000010#8] = .ok (.lda 0x42, []) ∧
    decode [0b10100010#8, 0b00000011#8] = .ok (.ldx 0x03, []) ∧
    decode [0b10100000#8, 0b10000000#8] = .ok (.ldy 0x80, []) := by decide

/-- R124, zero-page formats. -/
theorem test_decode_zero_page :
    decode [0b10000101#8, 0b00010000#8] = .ok (.sta 0x10, []) ∧
    decode [0b10000110#8, 0b00010001#8] = .ok (.stx 0x11, []) ∧
    decode [0b10000100#8, 0b11111111#8] = .ok (.sty 0xFF, []) := by decide

/-- R122, R124, D7: `4C 34 12` is a jump to `0x1234`. -/
theorem test_decode_absolute :
    decode [0b01001100#8, 0b00110100#8, 0b00010010#8] = .ok (.jmp 0x34 0x12, []) ∧
    absTarget 0x34 0x12 = 0x1234 := by decide

/-- R126 and program P6: `AD 00 20` is one unassigned byte and two more opcodes; the neighbours of the assigned
bytes are unassigned. -/
theorem test_decode_unassigned :
    decode [0xAD, 0x00, 0x20] = .ok (.unassignedAD, [0x00, 0x20]) ∧
    decode [0x4B] = .ok (.unassigned4B, []) ∧ decode [0x4D] = .ok (.unassigned4D, []) ∧
    decode [0xFF] = .ok (.unassignedFF, []) := by decide

/-- R125: the decoder's grid and the encoder agree on all 256 opcode bytes. -/
theorem test_every_opcode_byte_encodes_back :
    ∀ n : Fin 16, ∀ m : Fin 16,
      (encode ((formOf (BitVec.ofNat 8 (n.val * 16 + m.val))).build (fun _ => 0))).headD 0xFF =
        BitVec.ofNat 8 (n.val * 16 + m.val) := by decide

/-- The opcode table's bit numbering: the first byte is bits 7..0, the second bits 15..8. -/
theorem test_table_words :
    decodeTableWord 16 0x42A9 = some (.lda 0x42) ∧ decodeTableWord 24 0x12344C = some (.jmp 0x34 0x12) ∧
    decodeTableWord 8 0xEA = some .nop ∧ decodeTableWord 8 0x4C = some (.jmp 0x00 0x00) := by decide

/-! ### Flags (part 3) -/

/-- Part 3: every row of the `SetZN` table. -/
theorem test_setZN_rows :
    znFlags 0x24 0x00 = 0x26 ∧ znFlags 0x24 0x01 = 0x24 ∧ znFlags 0x24 0x7F = 0x24 ∧ znFlags 0x24 0x80 = 0xA4 ∧
    znFlags 0x24 0xFF = 0xA4 ∧ znFlags 0x26 0x80 = 0xA4 ∧ znFlags 0xA4 0x00 = 0x26 ∧ znFlags 0xFF 0x01 = 0x7D ∧
    znFlags 0xFF 0x80 = 0xFD ∧ znFlags 0x00 0x00 = 0x02 := by decide

/-! ### One step per instruction (part 4) -/

/-- `NOP`: program P1, step 2, from the reset state's counters. -/
theorem test_nop : shown (step (started (image [0xEA]))) =
    some ((0x00, 0x00, 0x00, 0x24), 0x8001, 9, 9, false) := by decide

/-- Section 4.1: `LDA #$80`. -/
theorem test_lda_negative : shown (step (started (image [0xA9, 0x80]))) =
    some ((0x80, 0x00, 0x00, 0xA4), 0x8002, 9, 9, false) := by decide

/-- Section 4.1: `LDA #$01` with `P = FF`. -/
theorem test_lda_keeps_other_flags : shown (step { started (image [0xA9, 0x01]) with p := 0xFF }) =
    some ((0x01, 0x00, 0x00, 0x7D), 0x8002, 9, 9, false) := by decide

/-- Section 4.1: `LDX #$80` with `P = FF`. -/
theorem test_ldx_negative : shown (step { started (image [0xA2, 0x80]) with p := 0xFF }) =
    some ((0x00, 0x80, 0x00, 0xFD), 0x8002, 9, 9, false) := by decide

/-- Section 4.1: `LDX #$00`. -/
theorem test_ldx_zero : shown (step (started (image [0xA2, 0x00]))) =
    some ((0x00, 0x00, 0x00, 0x26), 0x8002, 9, 9, false) := by decide

/-- Section 4.1: `LDY #$7F`. -/
theorem test_ldy_positive : shown (step (started (image [0xA0, 0x7F]))) =
    some ((0x00, 0x00, 0x7F, 0x24), 0x8002, 9, 9, false) := by decide

/-- Section 4.1: `LDY #$00`. -/
theorem test_ldy_zero : shown (step (started (image [0xA0, 0x00]))) =
    some ((0x00, 0x00, 0x00, 0x26), 0x8002, 9, 9, false) := by decide

/-- The start of section 4.2: `A = A1`, `X = B2`, `Y = C3`, `P = 26`. -/
def storing (prog : List Byte) : State :=
  { started (image prog) with a := 0xA1, x := 0xB2, y := 0xC3, p := 0x26 }

/-- Section 4.2: `STA $FF` changes no register but `PC` and no flag. -/
theorem test_sta_registers : shown (step (storing [0x85, 0xFF])) =
    some ((0xA1, 0xB2, 0xC3, 0x26), 0x8002, 10, 10, false) := by decide

/-- Section 4.2: `STA $FF` writes `cpuRam[0FF]` and nothing else. -/
theorem test_sta_memory : after (step (storing [0x85, 0xFF])) (fun t => (t.cpuRam, t.ppuRegs, t.apuRegs)) =
    some ([(0xFF, 0xA1)], [], []) := by decide

/-- Section 4.2: `STX $10`. -/
theorem test_stx_registers : shown (step (storing [0x86, 0x10])) =
    some ((0xA1, 0xB2, 0xC3, 0x26), 0x8002, 10, 10, false) := by decide

/-- Section 4.2: `STX $10` is read back at `0010`, `0810`, `1010`, `1810`. -/
theorem test_stx_memory : after (step (storing [0x86, 0x10])) (fun t =>
      [0x0010, 0x0810, 0x1010, 0x1810, 0x0011].map (busRead (image [0x86, 0x10]) t)) =
    some [0xB2, 0xB2, 0xB2, 0xB2, 0x00] := by decide

/-- Section 4.2: `STY $00`. -/
theorem test_sty_registers : shown (step (storing [0x84, 0x00])) =
    some ((0xA1, 0xB2, 0xC3, 0x26), 0x8002, 10, 10, false) := by decide

/-- Section 4.2: `STY $00` writes `cpuRam[000]`. -/
theorem test_sty_memory : after (step (storing [0x84, 0x00])) (fun t => t.cpuRam) = some [(0x00, 0xC3)] := by
  decide

/-- Section 4.3: `TAX` with `A = FF`. -/
theorem test_tax_negative : shown (step { started (image [0xAA]) with a := 0xFF, x := 0x55, y := 0x66 }) =
    some ((0xFF, 0xFF, 0x66, 0xA4), 0x8001, 9, 9, false) := by decide

/-- Section 4.3: `TAX` with `A = 00` and `P = A4`. -/
theorem test_tax_zero :
    shown (step { started (image [0xAA]) with a := 0x00, x := 0x55, y := 0x66, p := 0xA4 }) =
    some ((0x00, 0x00, 0x66, 0x26), 0x8001, 9, 9, false) := by decide

/-- Section 4.3: `TAY` with `A = 80`. -/
theorem test_tay_negative : shown (step { started (image [0xA8]) with a := 0x80, x := 0x55, y := 0x66 }) =
    some ((0x80, 0x55, 0x80, 0xA4), 0x8001, 9, 9, false) := by decide

/-- Section 4.3: `TAY` with `A = 00`. -/
theorem test_tay_zero : shown (step { started (image [0xA8]) with a := 0x00, x := 0x55, y := 0x66 }) =
    some ((0x00, 0x55, 0x00, 0x26), 0x8001, 9, 9, false) := by decide

/-- Section 4.4: `INX` wraps from `FF` to `00`. -/
theorem test_inx_wraps : shown (step { started (image [0xE8]) with x := 0xFF }) =
    some ((0x00, 0x00, 0x00, 0x26), 0x8001, 9, 9, false) := by decide

/-- Section 4.4: `INX` from `7F` sets N and no overflow flag. -/
theorem test_inx_sign : shown (step { started (image [0xE8]) with x := 0x7F }) =
    some ((0x00, 0x80, 0x00, 0xA4), 0x8001, 9, 9, false) := by decide

/-- Section 4.4: `INY` wraps from `FF` to `00`. -/
theorem test_iny_wraps : shown (step { started (image [0xC8]) with y := 0xFF }) =
    some ((0x00, 0x00, 0x00, 0x26), 0x8001, 9, 9, false) := by decide

/-- Section 4.4: `INY` from `7E`. -/
theorem test_iny_positive : shown (step { started (image [0xC8]) with y := 0x7E }) =
    some ((0x00, 0x00, 0x7F, 0x24), 0x8001, 9, 9, false) := by decide

/-- Section 4.4: `DEX` wraps from `00` to `FF`. -/
theorem test_dex_wraps : shown (step (started (image [0xCA]))) =
    some ((0x00, 0xFF, 0x00, 0xA4), 0x8001, 9, 9, false) := by decide

/-- Section 4.4: `DEX` from `01`. -/
theorem test_dex_zero : shown (step { started (image [0xCA]) with x := 0x01 }) =
    some ((0x00, 0x00, 0x00, 0x26), 0x8001, 9, 9, false) := by decide

/-- Section 4.4: `DEY` wraps from `00` to `FF`. -/
theorem test_dey_wraps : shown (step (started (image [0x88]))) =
    some ((0x00, 0x00, 0xFF, 0xA4), 0x8001, 9, 9, false) := by decide

/-- Section 4.4: `DEY` from `80` clears N. -/
theorem test_dey_sign : shown (step { started (image [0x88]) with y := 0x80, p := 0xA4 }) =
    some ((0x00, 0x00, 0x7F, 0x24), 0x8001, 9, 9, false) := by decide

/-- Section 4.5: `4C 34 12` with `P = A6`. -/
theorem test_jmp : shown (step { started (image [0x4C, 0x34, 0x12]) with p := 0xA6 }) =
    some ((0x00, 0x00, 0x00, 0xA6), 0x1234, 10, 10, false) := by decide

/-- Section 4.9, X2c: a jump that straddles `FFFF` takes its high byte from `0000`. -/
theorem test_jmp_straddles_the_top :
    shown (step { started (imageW 0xFE 0xFF 0x4C 0x34) with cpuRam := [(0, 0x12)] }) =
    some ((0x00, 0x00, 0x00, 0x24), 0x1234, 10, 10, false) := by decide

/-- Section 4.6: `BRK` with registers and flags set. -/
theorem test_brk_registers :
    shown (step { started (image [0x00]) with a := 0x01, x := 0x02, y := 0x03, p := 0xE7 }) =
    some ((0x01, 0x02, 0x03, 0xE7), 0x8001, 14, 14, true) := by decide

/-- Section 4.6: `BRK` pushes nothing, and `SP` stays; the counters from 100 and 1000. -/
theorem test_brk_pushes_nothing :
    after (step { started (image [0x00]) with cycles := 100, totalCycles := 1000 })
      (fun t => (t.cpuRam, t.sp, t.cycles, t.totalCycles)) = some ([], 0xFD, 107, 1107) := by decide

/-- Section 4.7: an opcode a 6502 gives a jump to (`20`) is a no-op. -/
theorem test_unassigned_20 :
    shown (step { started (image [0x20]) with a := 0x01, x := 0x02, y := 0x03, p := 0xE7 }) =
    some ((0x01, 0x02, 0x03, 0xE7), 0x8001, 9, 9, false) := by decide

/-- Section 4.7: the last opcode byte, `FF`. -/
theorem test_unassigned_FF :
    shown (step { started (image [0xFF]) with a := 0x01, x := 0x02, y := 0x03, p := 0xE7 }) =
    some ((0x01, 0x02, 0x03, 0xE7), 0x8001, 9, 9, false) := by decide

/-- Section 4.7: under the policy `refuse` no such step has a result. -/
theorem test_unassigned_refused (s : State) : unassignedIn .refuse s = .refused .unassignedOpcode := rfl

/-- Section 4.8: a step in HALTED counts one cycle. -/
theorem test_halted_step : shown (step endOfP1) =
    some ((0x42, 0x00, 0x00, 0x24), 0x8004, 19, 57, true) := by decide

/-- Section 4.8, mode `corrected`. -/
theorem test_corrected_mode :
    ({ endOfP1 with totalCycles := 11 }.chargeIn .corrected 1).totalCycles = 12 := by decide

/-- Section 4.9, X1: `PC` wraps from `FFFF` to `0000`. -/
theorem test_pc_wraps : shown (step (started (imageW 0xFF 0xFF 0xFF 0xEA))) =
    some ((0x00, 0x00, 0x00, 0x24), 0x0000, 9, 9, false) := by decide

/-- Section 4.9, X2b: a store whose operand is read from `0000`. -/
theorem test_store_straddles_the_top :
    after (step { started (imageW 0x00 0x00 0x00 0x85) with pc := 0xFFFF, a := 0x5A, cpuRam := [(0, 0x07)] })
      (fun t => (t.cpuRam, t.pc, t.cycles)) = some ([(0, 0x07), (7, 0x5A)], 0x0001, 10) := by decide

/-- Section 4.9, X3, second step: unmapped space reads `00`, which is `BRK`. -/
theorem test_code_in_unmapped_space :
    shown (step { started (image []) with pc := 0x4020, cycles := 10, totalCycles := 10 }) =
    some ((0x00, 0x00, 0x00, 0x24), 0x4021, 17, 27, true) := by decide

/-- Section 4.9, X4, second step: code runs from the PPU register window. -/
theorem test_code_in_the_ppu_window :
    after (step { busWrite (started (image [])) 0x2000 0xE8 with pc := 0x2000 }) (fun t => (t.x, t.pc)) =
    some (0x01, 0x2001) := by decide

/-- Section 4.9, X5, second step: code runs from a RAM mirror. -/
theorem test_code_in_a_ram_mirror :
    after (step { busWrite (started (image [])) 0x07FF 0xC8 with pc := 0x1FFF }) (fun t => (t.y, t.pc)) =
    some (0x01, 0x2000) := by decide

/-- R49: the machine at reset has no cartridge and refuses to step. -/
theorem test_no_cartridge : step State.reset = .refused .noCartridge := rfl

/-! ### Placing an instruction -/

/-- An instruction placed in the reset state is the one the next step runs. -/
theorem test_withFetchWord_runs_a_jump :
    shown (step (State.reset.withFetchWord 24 0x80054C)) =
    some ((0x00, 0x00, 0x00, 0x24), 0x8005, 10, 10, false) := by decide

/-- Bits above `nbits` are zero: the load's operand is zero. -/
theorem test_withFetchWord_zero_operand :
    shown (step ({ State.reset with a := 0x55 }.withFetchWord 8 0xA9)) =
    some ((0x00, 0x00, 0x00, 0x26), 0x0002, 9, 9, false) := by decide

/-- In a loaded machine the program bytes are placed in the image, at the reset vector's target. -/
theorem test_withFetchWord_in_a_loaded_machine :
    shown (step ((started (image [0x00])).withFetchWord 16 0x42A9)) =
    some ((0x42, 0x00, 0x00, 0x24), 0x8002, 9, 9, false) := by decide

/-! ### The Bus (part 5) -/

/-- The cartridge cells of part 5 that its vectors read: `prgRom[i] = (7 * i + 3) mod 256`. -/
def imageB : Cartridge :=
  { zeros 16384 with prgRom := [(0, 0x03), (0x123, 0xF8), (0x3FFC, 0xE7), (0x3FFD, 0xEE), (0x3FFF, 0xFC)] }

/-- A state on that cartridge. -/
def busB : State := started imageB

/-- B1: one write, four images. -/
theorem test_bus_B1 :
    [0x0000, 0x0800, 0x1000, 0x1800, 0x0001].map (busRead imageB (busWrite busB 0x0000 0x11)) =
    [0x11, 0x11, 0x11, 0x11, 0x00] := by decide

/-- B2: the last RAM byte, written through a mirror. -/
theorem test_bus_B2 :
    [0x07FF, 0x0FFF, 0x17FF, 0x1FFF].map (busRead imageB (busWrite busB 0x0FFF 0x22)) =
    [0x22, 0x22, 0x22, 0x22] := by decide

/-- B4: the PPU window, mirrored every eight addresses. -/
theorem test_bus_B4 :
    [0x2000, 0x2008, 0x3FF8, 0x2007, 0x200F, 0x3FFF, 0x2001, 0x3FF9].map
      (busRead imageB (busWrite (busWrite (busWrite busB 0x2000 0x44) 0x3FFF 0x55) 0x2009 0x66)) =
    [0x44, 0x44, 0x44, 0x55, 0x55, 0x55, 0x66, 0x66] := by decide

/-- B5: the APU window ends at `4017`. -/
theorem test_bus_B5 :
    (busWrite (busWrite (busWrite (busWrite busB 0x4000 0x77) 0x4017 0x88) 0x4018 0x99) 0x401F 0xAA).apuRegs =
      [(0, 0x77), (23, 0x88)] ∧
    [0x4000, 0x4017, 0x4018, 0x401F].map (busRead imageB
      (busWrite (busWrite (busWrite (busWrite busB 0x4000 0x77) 0x4017 0x88) 0x4018 0x99) 0x401F 0xAA)) =
      [0x77, 0x88, 0x00, 0x00] := by decide

/-- B6: writes to unmapped space and to PRG do nothing. -/
theorem test_bus_B6 :
    busWrite busB 0x4020 0xBB = busB ∧ busWrite busB 0x7FFF 0xCC = busB ∧ busWrite busB 0x8000 0xDD = busB ∧
    [0x4020, 0x7FFF, 0x8000].map (busRead imageB busB) = [0x00, 0x00, 0x03] := by decide

/-- B7: a 16 KiB image appears twice. -/
theorem test_bus_B7 :
    [0x8000, 0xC000, 0x8123, 0xC123, 0xBFFF, 0xFFFF, 0xFFFC, 0xFFFD].map (busRead imageB busB) =
      [0x03, 0x03, 0xF8, 0xF8, 0xFC, 0xFC, 0xE7, 0xEE] ∧ busB.pc = 0xEEE7 := by decide

/-- B8: addresses and values are masked. -/
theorem test_bus_B8 :
    (busWrite (busWrite busB 0x10000 0x12) 0x0001 0x1FF).cpuRam = [(0, 0x12), (1, 0xFF)] ∧
    busRead imageB busB 0x1FFFC = 0xE7 := by decide

/-- B9: a 32 KiB image is not mirrored. -/
theorem test_bus_B9 :
    [0x8000, 0x8001, 0xC001].map (busRead { zeros 32768 with prgRom := [(0, 0x01), (0x4001, 0x06)] } busB) =
    [0x01, 0x00, 0x06] := by decide

/-- B10: of a 48 KiB image the first 32 KiB are seen. -/
theorem test_bus_B10 :
    busRead { zeros 49152 with prgRom := [(0x7FFF, 0xFF), (0x8000, 0x02)] } busB 0xFFFF = 0xFF := by decide

/-- Writing the byte an unwritten cell reads as leaves no cell, so equal storage is equal data. -/
theorem test_storage_stays_canonical :
    (busWrite (busWrite busB 0x0005 0x11) 0x0805 0x00).cpuRam = [] ∧
    (busWrite (busWrite busB 0x0005 0x11) 0x0003 0x22).cpuRam = [(3, 0x22), (5, 0x11)] := by decide

/-! ### The loader (part 6) -/

/-- L1, L2, L3, L4: the failures before the header is complete. -/
theorem test_loader_L1_to_L4 :
    load none = .error .notFound ∧ load (some []) = .error .invalidFormat ∧
    load (some [0x4E, 0x45, 0x53]) = .error .invalidFormat ∧
    load (some [0x4E, 0x45, 0x53, 0x1A]) = .error .io := by decide

/-- L6: the first 15 bytes of a header. -/
theorem test_loader_L6 : load (some ((file 1 0 0 0 []).take 15)) = .error .io := by decide

/-- L16: lower-case magic. -/
theorem test_loader_L16 : load (some ([0x6E, 0x65, 0x73, 0x1A] ++ List.replicate 12 0)) = .error .invalidFormat := by
  decide

/-- L13: an image with no PRG loads, and no machine runs it (R69). -/
theorem test_loader_L13 :
    load (some (file 0 0 0 0 [])) = .ok (zeros 0) ∧
    loadRom (some (file 0 0 0 0 [])) State.reset = .refused .emptyPrg := by
  have h : load (some (file 0 0 0 0 [])) = .ok (zeros 0) := by decide
  exact ⟨h, by rw [loadRom, h]; rfl⟩

/-- L11, L12, L14, L15: mapper numbers. -/
theorem test_loader_mapper_numbers :
    imageMapperId (file 1 1 0x41 0x20 []) = 36 ∧ imageMapperId (file 2 0 0xFF 0xFF []) = 255 ∧
    imageMapperId (file 1 0 0x04 0x00 []) = 0 ∧ imageMapperId (file 1 0 0x10 0x00 []) = 1 ∧
    imageMapperId (file 1 0 0x00 0x10 []) = 16 ∧ imageMapperId (file 1 0 0xF0 0xF0 []) = 255 ∧
    imageMapperId (file 1 0 0x0F 0x0F []) = 0 := by decide

/-- R86: header byte 4 counts PRG units. -/
theorem one_unit_prgSize (f6 f7 : Byte) (data : List Byte) : imagePrgSize (file 1 0 f6 f7 data) = 16384 := by
  have hb : (headerByte (file 1 0 f6 f7 data) 4).toNat = 1 := rfl
  rw [imagePrgSize, hb, Nat.one_mul, Config.prgUnit]

/-- R86: header byte 5 counts CHR units. -/
theorem one_unit_chrSize (f6 f7 : Byte) (data : List Byte) : imageChrSize (file 1 0 f6 f7 data) = 0 := by
  have hb : (headerByte (file 1 0 f6 f7 data) 5).toNat = 0 := rfl
  rw [imageChrSize, hb, Nat.zero_mul]

/-- R86, R88: a file of one PRG unit and no CHR that is long enough loads. -/
theorem load_one_unit (f6 f7 : Byte) (data : List Byte) (h : 16384 ≤ data.length) :
    load (some (file 1 0 f6 f7 data)) = .ok (imageCartridge (file 1 0 f6 f7 data)) := by
  have hm : (file 1 0 f6 f7 data).take 4 = inesMagic := rfl
  have hl : (file 1 0 f6 f7 data).length = data.length + 16 := rfl
  have hp := one_unit_prgSize f6 f7 data
  have hc : imageChrSize (file 1 0 f6 f7 data) = 0 := one_unit_chrSize f6 f7 data
  have hh : headerSize = 16 := rfl
  rw [load, if_neg (not_not_intro hm), if_neg (by omega), if_neg (by omega)]

/-- L7: PRG one byte short, whatever the bytes. -/
theorem test_loader_L7 (data : List Byte) (h : data.length = 16383) :
    load (some (file 1 0 0 0 data)) = .error .io := by
  have hm : (file 1 0 0 0 data).take 4 = inesMagic := rfl
  have hl : (file 1 0 0 0 data).length = data.length + 16 := rfl
  have hp := one_unit_prgSize 0 0 data
  have hh : headerSize = 16 := rfl
  rw [load, if_neg (not_not_intro hm), if_neg (by omega), if_pos (by omega)]

/-- 16384 bytes `AA`, the data of L8. -/
def dataAA : List Byte := 0xAA :: List.replicate 16383 0xAA

/-- The data is one PRG unit long. -/
theorem dataAA_length : dataAA.length = 16384 := by
  rw [dataAA, List.length_cons, List.length_replicate]

/-- L8: a complete 16 KiB image loads. -/
theorem test_loader_L8 : ∃ c, load (some (file 1 0 0 0 dataAA)) = .ok c ∧
    c.prgSize = 16384 ∧ c.chrSize = 0 ∧ c.mapperId = 0 ∧ c.prgRom.read 0 = 0xAA := by
  refine ⟨_, load_one_unit 0 0 _ (le_of_eq dataAA_length.symm), one_unit_prgSize _ _ _,
    one_unit_chrSize _ _ _, rfl, ?_⟩
  show (Memory.ofBytes (imagePrg _)).read 0 = 0xAA
  rw [imagePrg, one_unit_prgSize]
  rfl

/-! ### The PictureUnit (part 7) -/

/-- The three counters, placed. -/
def at3 (dot scanline frameCount : Nat) : State := State.reset.setPicture dot scanline frameCount

/-- Part 7: the wraps of `dot` and `scanline`. -/
theorem test_picture_wraps :
    pictureSteps 1 (at3 339 0 0) = at3 340 0 0 ∧ pictureSteps 1 (at3 340 0 0) = at3 0 1 0 ∧
    pictureSteps 1 (at3 340 260 0) = at3 0 261 0 ∧ pictureSteps 1 (at3 340 261 5) = at3 0 0 6 := by decide

/-- Part 7: three steps over a wrap. -/
theorem test_picture_three_steps :
    pictureSteps 3 (at3 340 0 0) = at3 2 1 0 ∧ pictureSteps 3 (at3 339 261 0) = at3 1 0 1 := by decide

/-! ### Frames, reset and loading (part 8) -/

/-- R236 on an image whose first byte is `BRK`: one step of cost 7, three dots, one tick. -/
theorem test_frame_of_one_step :
    after (stepFrame (started (image [0x00]))) (fun t => (t.cycles, t.pc, t.halted, t.dot, t.scanline, t.tick)) =
    some (14, 0x8001, true, 3, 0, 1) := by rfl

/-- S3: a frame on the halted machine only ticks. -/
theorem test_frame_S3 :
    after (stepFrame { endOfP1 with dot := 9, tick := 1 })
      (fun t => (t.cycles, t.totalCycles, t.dot, t.tick)) = some (18, 38, 9, 2) := by rfl

/-- S3: and the frame it returns is that of the new tick. -/
theorem test_frame_S3_pixels :
    after (stepFrame { endOfP1 with dot := 9, tick := 1 }) (fun t => t.frameBuffer) = some (renderFrame 2) := by rfl

/-- S4: `Console.reset()` keeps `dot` and zeroes `tick`. -/
theorem test_reset_S4 :
    after (consoleReset { endOfP1 with dot := 9, tick := 2, cycles := 19, totalCycles := 57 })
      (fun t => (t.a, t.pc, t.cycles, t.totalCycles, t.halted, t.tick, t.dot)) =
    some (0x00, 0x8000, 7, 0, false, 0, 9) := rfl

/-- S6: `Console.reset()` keeps RAM. -/
theorem test_reset_S6 :
    after (consoleReset { endOfP1 with cpuRam := [(0x20, 0x07)] }) (fun t => t.cpuRam) = some [(0x20, 0x07)] := rfl

/-- S5: a failed load changes nothing. -/
theorem test_load_S5 :
    loadRom (some ([0x4E, 0x45, 0x53, 0x00] ++ List.replicate 12 0)) { endOfP1 with dot := 9, tick := 1 } =
    .next ({ endOfP1 with dot := 9, tick := 1 }, .error .invalidFormat) := rfl

/-- S7: a load puts a new Bus in place and keeps the PictureUnit. -/
theorem test_load_S7 : ∃ t, loadRom (some (file 1 0 0 0 dataAA))
      { endOfP1 with cpuRam := [(0x20, 0x07)], dot := 9, tick := 1 } = .next (t, .ok ()) ∧
    t.cpuRam = [] ∧ t.dot = 9 ∧ t.tick = 0 ∧ t.cycles = 7 ∧ t.halted = false := by
  rw [loadRom, load_one_unit 0 0 _ (le_of_eq dataAA_length.symm)]
  exact ⟨_, rfl, rfl, rfl, rfl, rfl, rfl⟩

/-! ### Witnesses: for every statement with hypotheses, values that meet them -/

/-- A machine that has just loaded `LDA #$42; NOP; BRK`. -/
def loaded1 : State := started (image [0xA9, 0x42, 0xEA, 0x00])

/-- The same machine at its `BRK`. -/
def atBrk : State := { loaded1 with pc := 0x8003 }

/-- It can run. -/
theorem loaded1_running : Running (image [0xA9, 0x42, 0xEA, 0x00]) loaded1 := ⟨⟨rfl, by decide⟩, rfl⟩

/-- The end of P1 is halted. -/
theorem endOfP1_halted : Halted (image [0xA9, 0x42, 0xEA, 0x00]) endOfP1 := ⟨⟨rfl, by decide⟩, rfl⟩

/-- It meets the invariant. -/
theorem loaded1_inv : loaded1.Inv where
  ramForm := by decide
  ramWithin := by decide
  ppuForm := by decide
  ppuWithin := by decide
  apuForm := by decide
  apuWithin := by decide
  frameForm := by decide
  frameWithin := by decide
  cartOk := by
    intro c hc
    cases hc
    exact ⟨⟨⟨1, by decide, by decide⟩, ⟨0, by decide, by decide⟩, by decide, by decide, by decide, by decide⟩,
      by decide⟩
  spReset := by decide
  pReach := by decide
  dotRange := by decide
  scanlineRange := by decide
  cyclesMin := by decide

/-- Both clauses at their boundary: a jump with two bytes after it, and with one. -/
theorem witness_DecodingFailsOnlyForMissingBytes :
    operandCount 0x4C ≤ ([0x05, 0x80] : List Byte).length ∧ ([0x05] : List Byte).length < operandCount 0x4C ∧
    operandCount 0xEA ≤ ([] : List Byte).length := by decide

/-- Range ends of R126: in, in, in; and an assigned byte out. -/
theorem witness_UnassignedBytesAreOneByteNoOps :
    Reading.unassignedByte 0x01 = true ∧ Reading.unassignedByte 0x4B = true ∧
    Reading.unassignedByte 0xFF = true ∧ Reading.unassignedByte 0x4C = false := by decide

/-- A running machine. -/
theorem witness_StepRunsTheDecodedInstruction : ∃ c s, Running c s := ⟨_, _, loaded1_running⟩

/-- A halted machine. -/
theorem witness_HaltedStepOnlyCounts : ∃ c s, Halted c s := ⟨_, _, endOfP1_halted⟩

/-- A loaded machine, running and halted. -/
theorem witness_StepRefinesThePseudocode :
    (∃ c s, Loaded c s ∧ s.halted = false) ∧ ∃ c s, Loaded c s ∧ s.halted = true :=
  ⟨⟨_, _, loaded1_running⟩, ⟨_, _, endOfP1_halted⟩⟩

/-- The machine at reset. -/
theorem witness_NothingRunsWithoutACartridge : State.reset.cart = none := rfl

/-- (a) a cartridge and a file with no PRG; (b) two images of 32 KiB and of 48 KiB that differ beyond. -/
theorem witness_PrgSizeEdges :
    (∃ (c : Cartridge) (s : State), s.cart = some c ∧ c.prgSize = 0) ∧
    (∃ (f : List Byte) (c : Cartridge), load (some f) = .ok c ∧ f.getD 4 0 = 0) ∧
    (0x8000 ≤ (zeros 32768).prgSize) ∧
    (0x8000 ≤ (zeros 49152).prgSize ∧
      ∀ i, i < 0x8000 → Memory.read [(0x8000, 0x02)] i = (zeros 49152).prgRom.read i) := by
  refine ⟨⟨zeros 0, { State.reset with cart := some (zeros 0) }, rfl, rfl⟩,
    ⟨file 0 0 0 0 [], zeros 0, by decide, by decide⟩, by decide, by decide, fun i hi => ?_⟩
  have hne : (0x8000 : Nat) ≠ i := by omega
  show (if (0x8000 : Nat) = i then _ else _) = _
  rw [if_neg hne]
  rfl

/-- An unassigned instruction. -/
theorem witness_UnassignedOpcodesAreNoOps : Reading.unassignedByte Instr.unassignedAD.opcode = true := by decide

/-- Every bit of `P` that `SetZN` leaves alone is in the list. -/
theorem witness_SetZnWritesZeroAndNegativeOnly : 6 ∈ [6, 5, 4, 3, 2, 0] ∧ 0 ∈ [6, 5, 4, 3, 2, 0] := by decide

/-- A step that answers. -/
theorem witness_NoStepReadsAFlag : ∃ t, step loaded1 = .next t := ⟨_, rfl⟩

/-- Calls of both kinds: one that leaves `P`'s other bits, and one that resets. -/
theorem witness_InertRegistersChangeByResetOnly :
    (∃ t r, hostCall .cpuStep loaded1 = .next (t, r)) ∧ ∃ t r, hostCall .reset loaded1 = .next (t, r) :=
  ⟨⟨_, _, rfl⟩, ⟨_, _, rfl⟩⟩

/-- R64 at both ends of the range, with `k` positive and negative. -/
theorem witness_RamIsMirroredFourTimes :
    ((0 < 0x2000 ∧ 0x1800 < 0x2000) ∧ ((0x1800 : Nat) : Int) = ((0 : Nat) : Int) + 0x800 * 3) ∧
    ((0x1FFF < 0x2000 ∧ 0x07FF < 0x2000) ∧ ((0x07FF : Nat) : Int) = ((0x1FFF : Nat) : Int) + 0x800 * (-3)) := by
  decide

/-- Both ends of the PPU window. -/
theorem witness_PpuWindowIsMirroredStorage :
    (0x2000 ≤ 0x2000 ∧ 0x2000 < 0x4000) ∧ (0x2000 ≤ 0x3FFF ∧ 0x3FFF < 0x4000) := by decide

/-- Both ends of the APU storage and of the eight addresses above it; the clauses do not meet. -/
theorem witness_ApuWindowIsLinearStorage :
    0 < 24 ∧ 23 < 24 ∧ (0x4018 ≤ 0x4018 ∧ 0x4018 ≤ 0x401F) ∧ (0x4018 ≤ 0x401F ∧ 0x401F ≤ 0x401F) ∧
    0x4000 + 23 < 0x4018 := by decide

/-- Both ends of the unmapped range. -/
theorem witness_UnmappedRangeReadsZero :
    (0x4020 ≤ 0x4020 ∧ 0x4020 ≤ 0x7FFF) ∧ (0x4020 ≤ 0x7FFF ∧ 0x7FFF ≤ 0x7FFF) := by decide

/-- Both ends of the PRG window, and images of both sizes with the last offset of each clause. -/
theorem witness_PrgWindowReadsModuloSize :
    (0x8000 ≤ 0x8000 ∧ 0x8000 ≤ 0xFFFF) ∧ (0x8000 ≤ 0xFFFF ∧ 0xFFFF ≤ 0xFFFF) ∧
    ((image []).prgSize = 16384 ∧ 0x3FFF < 0x4000) ∧ ((imageW 0 0 0 0).prgSize = 32768 ∧ 0x7FFF < 0x8000) := by
  decide

/-- Both ends of the PRG window. -/
theorem witness_PrgWindowDiscardsWrites :
    (0x8000 ≤ 0x8000 ∧ 0x8000 ≤ 0xFFFF) ∧ (0x8000 ≤ 0xFFFF ∧ 0xFFFF ≤ 0xFFFF) := by decide

/-- `STA $00` seen at `0000`, and `STA $FF` seen at its last mirror. -/
theorem witness_StoresAreSeenByTheNextFetch :
    (∃ t, exec (.sta 0x00) loaded1 = .next t) ∧ (∃ t, exec (.sta 0xFF) loaded1 = .next t) ∧
    ((0x0000 : Word).toNat < 0x2000 ∧ (0x0000 : Word).toNat % 0x0800 = (0x00 : Byte).toNat) ∧
    ((0x18FF : Word).toNat < 0x2000 ∧ (0x18FF : Word).toNat % 0x0800 = (0xFF : Byte).toNat) :=
  ⟨⟨_, rfl⟩, ⟨_, rfl⟩, by decide, by decide⟩

/-- A step that stores, and the first cell it cannot reach. -/
theorem witness_StepsWriteOnlyPageZero : (∃ t, step (storing [0x85, 0xFF]) = .next t) ∧ 0x100 ≤ 0x100 :=
  ⟨⟨_, rfl⟩, by decide⟩

/-- A loaded machine at a jump, at another instruction, and halted. -/
theorem witness_StepsMovePCByTheFormat :
    Loaded (image [0xA9, 0x42, 0xEA, 0x00]) loaded1 ∧ Loaded (image [0xA9, 0x42, 0xEA, 0x00]) endOfP1 ∧
    (Loaded (image [0x4C, 0x05, 0x80]) (started (image [0x4C, 0x05, 0x80])) ∧
      busRead (image [0x4C, 0x05, 0x80]) (started (image [0x4C, 0x05, 0x80]))
        (started (image [0x4C, 0x05, 0x80])).pc.toNat = 0x4C) :=
  ⟨loaded1_running.1, endOfP1_halted.1, ⟨rfl, by decide⟩, by decide⟩

/-- A loaded machine at a `BRK`, not at one, and halted. -/
theorem witness_OnlyBrkHaltsAStepAndCpuResetResumes :
    (Loaded (image [0xA9, 0x42, 0xEA, 0x00]) atBrk ∧
      busRead (image [0xA9, 0x42, 0xEA, 0x00]) atBrk atBrk.pc.toNat = 0x00) ∧
    Loaded (image [0xA9, 0x42, 0xEA, 0x00]) loaded1 ∧ Loaded (image [0xA9, 0x42, 0xEA, 0x00]) endOfP1 :=
  ⟨⟨⟨rfl, by decide⟩, by decide⟩, loaded1_running.1, endOfP1_halted.1⟩

/-- Two machines that differ in registers, flags and counters only, both of which step. -/
theorem witness_ControlFlowIgnoresRegisters : ∃ s s' t t' : State,
    s ≠ s' ∧ s.pc = s'.pc ∧ s.halted = s'.halted ∧ s.cart = s'.cart ∧ s.cpuRam = s'.cpuRam ∧
    s.ppuRegs = s'.ppuRegs ∧ s.apuRegs = s'.apuRegs ∧ step s = .next t ∧ step s' = .next t' :=
  ⟨loaded1, { loaded1 with a := 0x55, p := 0xA4, cycles := 100 }, _, _, by decide, rfl, rfl, rfl, rfl, rfl, rfl,
    rfl, rfl⟩

/-- Two cartridges that differ in the mapper number and in CHR. -/
theorem witness_MapperAndChrHaveNoEffect : ∃ (c d : Cartridge) (s t : State),
    c ≠ d ∧ s.cart = some c ∧ d.prgRom = c.prgRom ∧ d.prgSize = c.prgSize ∧ step s = .next t :=
  ⟨_, { image [0xA9, 0x42, 0xEA, 0x00] with mapperId := 0x24, chrRom := [(0, 0xBB)], chrSize := 8192 },
    loaded1, _, by decide, rfl, rfl, rfl, rfl⟩

/-- A halted machine and a loaded one. -/
theorem witness_StepCostsAreTheTables : (∃ c s, Halted c s) ∧ ∃ c s, Loaded c s :=
  ⟨⟨_, _, endOfP1_halted⟩, ⟨_, _, loaded1_running.1⟩⟩

/-- A run of two steps. -/
theorem witness_CountersOfARun : ∃ t, Reading.steps 2 loaded1 = .next t := ⟨_, rfl⟩

/-- A loaded machine. -/
theorem witness_CpuResetWritesEveryCpuField : ∃ c s, Loaded c s := ⟨_, _, endOfP1_halted.1⟩

/-- A loaded machine. -/
theorem witness_ConsoleResetAlsoZeroesTickAndFrameCount : ∃ c s, Loaded c s := ⟨_, _, endOfP1_halted.1⟩

/-- A loaded machine. -/
theorem witness_ResetVectorComesFromTheCartridge : ∃ c s, Loaded c s := ⟨_, _, endOfP1_halted.1⟩

/-- A file that loads, with some PRG; and the ends of the address range. -/
theorem witness_LoadRomInstallsAndResets :
    (∃ f c, load (some f) = .ok c ∧ c.prgSize ≠ 0) ∧ 0 < 0x8000 ∧ 0x7FFF < 0x8000 := by
  refine ⟨⟨file 1 0 0 0 dataAA, _, load_one_unit 0 0 _ (le_of_eq dataAA_length.symm), ?_⟩, by decide, by decide⟩
  show imagePrgSize _ ≠ 0
  rw [one_unit_prgSize]
  decide

/-- A file with a wrong magic, and a load that fails otherwise. -/
theorem witness_FailedLoadsChangeNothing :
    ([0x4E, 0x45, 0x53, 0x00] : List Byte).take 4 ≠ [0x4E, 0x45, 0x53, 0x1A] ∧
    load (some [0x4E, 0x45, 0x53, 0x1A]) = .error .io := by decide

/-- A file for each outcome: bad magic, header short, data short, whole. -/
theorem witness_LoaderFailuresByTaxonomy :
    ([] : List Byte).take 4 ≠ [0x4E, 0x45, 0x53, 0x1A] ∧
    ((file 1 0 0 0 []).take 15).length < 16 ∧
    (file 1 0 0 0 []).length < 16 + 16384 * ((file 1 0 0 0 []).getD 4 0).toNat +
      8192 * ((file 1 0 0 0 []).getD 5 0).toNat ∧
    16 + 16384 * ((file 0 0 0 0 []).getD 4 0).toNat + 8192 * ((file 0 0 0 0 []).getD 5 0).toNat ≤
      (file 0 0 0 0 []).length := by decide

/-- A file that loads, and its last PRG offset. -/
theorem witness_LoadedCartridgeHoldsTheImage :
    ∃ f c, load (some f) = .ok c ∧ c.prgSize = 16384 ∧ 16383 < c.prgSize := by
  refine ⟨file 1 0 0 0 dataAA, _, load_one_unit 0 0 _ (le_of_eq dataAA_length.symm), one_unit_prgSize _ _ _, ?_⟩
  show _ < imagePrgSize _
  rw [one_unit_prgSize]
  decide

/-- A file whose mapper number is not zero. -/
theorem witness_MapperNumberFromTheFlagNibbles : ∃ f c, load (some f) = .ok c ∧ c.mapperId = 0x24 :=
  ⟨file 1 0 0x41 0x20 dataAA, _, load_one_unit _ _ _ (le_of_eq dataAA_length.symm), by decide⟩

/-- Two different files that agree in the fields the loader reads. -/
theorem witness_IgnoredHeaderFieldsAreIgnored : ∃ f g : List Byte, f ≠ g ∧ f.length = g.length ∧
    (∀ i, i < 6 → f.getD i 0 = g.getD i 0) ∧
    (f.getD 6 0).toNat / 16 = (g.getD 6 0).toNat / 16 ∧ (f.getD 7 0).toNat / 16 = (g.getD 7 0).toNat / 16 ∧
    (∀ i, 16 ≤ i → f.getD i 0 = g.getD i 0) := by
  refine ⟨file 0 0 0x41 0x20 [], file 0 0 0x4F 0x2F [], by decide, rfl, by decide, by decide, by decide, ?_⟩
  intro i hi
  rw [List.getD_eq_default _ _ hi, List.getD_eq_default _ _ hi]

/-- The first and the last dot of a frame. -/
theorem witness_PictureStepsInClosedForm :
    ((at3 0 0 0).dot ≤ 340 ∧ (at3 0 0 0).scanline ≤ 261) ∧ ((at3 340 261 0).dot ≤ 340 ∧ (at3 340 261 0).scanline ≤ 261) := by
  decide

/-- The last byte of a frame, and the first index beyond. -/
theorem witness_FramesAreDrawnFromTheTick : 184319 < 240 * 256 * 3 ∧ ¬ 184320 < 240 * 256 * 3 := by decide

/-- A loaded machine that runs, and a halted one. -/
theorem witness_FrameIsTheBudgetedLoop : (∃ c s, Running c s) ∧ ∃ c s, Halted c s :=
  ⟨⟨_, _, loaded1_running⟩, ⟨_, _, endOfP1_halted⟩⟩

/-- A halted machine. -/
theorem witness_HaltedFrameOnlyTicks : ∃ c s, Halted c s := ⟨_, _, endOfP1_halted⟩

/-- A running machine at the first dot of a frame and at the last. -/
theorem witness_FrameLengthAndDots :
    (∃ c s, Running c s ∧ s.dot ≤ 340 ∧ s.scanline ≤ 261) ∧
    (∃ c s, Running c s ∧ s.dot = 340 ∧ s.scanline = 261 ∧ s.dot ≤ 340 ∧ s.scanline ≤ 261) :=
  ⟨⟨_, _, loaded1_running, by decide, by decide⟩,
   ⟨_, { loaded1 with dot := 340, scanline := 261 }, ⟨⟨rfl, by decide⟩, rfl⟩, rfl, rfl, by decide, by decide⟩⟩

/-- A loaded machine, and a file whose load the call refuses. -/
theorem witness_EveryCallButAnEmptyLoadAnswers :
    (∃ c s, Loaded c s) ∧ ∃ f d, load (some f) = .ok d ∧ d.prgSize = 0 :=
  ⟨⟨_, _, loaded1_running.1⟩, ⟨file 0 0 0 0 [], zeros 0, by decide, rfl⟩⟩

/-- A state that meets the invariant and steps. -/
theorem witness_StepsKeepTheInvariant : ∃ s t : State, s.Inv ∧ step s = .next t := ⟨_, _, loaded1_inv, rfl⟩

/-- A state that meets the invariant, and a Bus write and a reset that answer. -/
theorem witness_HostCallsKeepTheInvariant :
    (∃ s t r, s.Inv ∧ hostCall (.busWrite 0x07FF 0x22) s = .next (t, r)) ∧
    ∃ s t r, s.Inv ∧ hostCall .reset s = .next (t, r) :=
  ⟨⟨_, _, _, loaded1_inv, rfl⟩, ⟨_, _, _, loaded1_inv, rfl⟩⟩

end Sys2Proof.Tests
end

/-! ## Proofs of the family `10_state.md` -/

namespace Sys2Proof.Machine

/-! ### Flags -/

/-- Masked with `0x80`, a byte is its bit 7. -/
theorem and_negativeMask (v : Byte) : v &&& 0x80 = if v.getLsbD 7 then 0x80 else 0x00 := by
  revert v; decide

/-- `SetZN` in the bits of R158. -/
theorem znFlags_eq_flagsAfter (p v : Byte) : znFlags p v = Reading.flagsAfter p v := by
  simp only [znFlags, Reading.flagsAfter, and_negativeMask, zeroMask, negativeMask]
  split <;> split <;> simp

theorem flagsAfter_getLsbD_one (p v : Byte) : (Reading.flagsAfter p v).getLsbD 1 = decide (v = 0) := by
  unfold Reading.flagsAfter
  split <;> simp_all

theorem flagsAfter_getLsbD_seven (p v : Byte) : (Reading.flagsAfter p v).getLsbD 7 = v.getLsbD 7 := by
  unfold Reading.flagsAfter
  split <;> simp

/-- No byte is both zero and negative (R30). -/
theorem zero_and_negative_exclude (v : Byte) : (decide (v = 0) && v.getLsbD 7) = false := by
  revert v; decide

/-- `SetZN` leaves every bit of the mask `0x7D` as it is (R30). -/
theorem flagsAfter_and_inert (p v : Byte) : Reading.flagsAfter p v &&& 0x7D = p &&& 0x7D := by
  unfold Reading.flagsAfter
  rw [and_negativeMask]
  split <;> split <;> (revert p; decide)

/-- `SetZN` leaves the bits of the mask `0x7D` as they are (R30). -/
theorem flagsAfter_getLsbD_inert {k : Nat} (hk : k ∈ [6, 5, 4, 3, 2, 0]) (p v : Byte) :
    (Reading.flagsAfter p v).getLsbD k = p.getLsbD k := by
  have hmask : (0x7D : Byte).getLsbD k = true := by revert k; decide
  have h := congrArg (BitVec.getLsbD · k) (flagsAfter_and_inert p v)
  simpa only [BitVec.getLsbD_and, hmask, Bool.and_true] using h

/-- From the flag bytes of R158, `SetZN` leads to one of them. -/
theorem flagsAfter_reach {p : Byte} (v : Byte) (h : p = 0x24 ∨ p = 0x26 ∨ p = 0xA4) :
    Reading.flagsAfter p v = 0x24 ∨ Reading.flagsAfter p v = 0x26 ∨ Reading.flagsAfter p v = 0xA4 := by
  have hp : p &&& 0x7D = 0x24 := by obtain rfl | rfl | rfl := h <;> decide
  rw [Reading.flagsAfter, hp]
  revert v; decide

/-! ### What an instruction and a step do -/

/-- Neither `BRK` nor `JMP`: control goes on to the instruction after it. -/
def StraightLine (i : Instr) : Prop := i.opcode ≠ 0x00 ∧ i.opcode ≠ 0x4C

/-- The state after the fetch of all bytes of instruction `i` (R130). -/
abbrev fetched (i : Instr) (s : State) : State := s.advancePC (1 + operandCount i.opcode)

/-- What an instruction can do between its fetch and the bookkeeping: seven kinds of effect. -/
inductive Effect (i : Instr) (s : State) : State → Prop where
  /-- `NOP` and the unassigned opcodes. -/
  | idle (h : StraightLine i) : Effect i s (fetched i s)
  /-- `LDA`. -/
  | writeA (v : Byte) (h : StraightLine i) : Effect i s (((fetched i s).setA v).setZN v)
  /-- `LDX`, `TAX`, `INX`, `DEX`. -/
  | writeX (v : Byte) (h : StraightLine i) : Effect i s (((fetched i s).setX v).setZN v)
  /-- `LDY`, `TAY`, `INY`, `DEY`. -/
  | writeY (v : Byte) (h : StraightLine i) : Effect i s (((fetched i s).setY v).setZN v)
  /-- `STA`, `STX`, `STY`. -/
  | store (z v : Byte) (h : StraightLine i) : Effect i s (memWrite (fetched i s) (zeroPage z) v)
  /-- `JMP`. -/
  | jump (lo hi : Byte) (h : i = .jmp lo hi) : Effect i s ((fetched i s).setPC (absTarget lo hi))
  /-- `BRK`. -/
  | halt (h : i = .brk) : Effect i s (fetched i s).halt

/-- An opcode byte outside the fifteen of R124 has no operands and is neither that of `BRK` nor that of `JMP`. -/
theorem operandCount_of_unassigned {op : Byte} (h : op ∉ assignedOpcodes) :
    operandCount op = 0 ∧ op ≠ 0x00 ∧ op ≠ 0x4C := by
  revert op; decide

/-- Every instruction answers: it has one of the effects, and then its cost is booked. -/
theorem exec_effect (i : Instr) (s : State) :
    ∃ u k, Effect i s u ∧ k ∈ [2, 3, 7] ∧ exec i s = .next (u.charge k) := by
  obtain ⟨rfl, e⟩ | ⟨v, rfl, e⟩ | ⟨v, rfl, e⟩ | ⟨v, rfl, e⟩ | ⟨z, rfl, e⟩ | ⟨z, rfl, e⟩ | ⟨z, rfl, e⟩ |
    ⟨rfl, e⟩ | ⟨rfl, e⟩ | ⟨rfl, e⟩ | ⟨rfl, e⟩ | ⟨rfl, e⟩ | ⟨rfl, e⟩ | ⟨lo, hi, rfl, e⟩ | ⟨rfl, e⟩ |
    ⟨hop, -, e⟩ := exec_cases i s
  · exact ⟨_, 2, .idle ⟨nofun, nofun⟩, by decide, e⟩
  · exact ⟨_, 2, .writeA v ⟨nofun, nofun⟩, by decide, e⟩
  · exact ⟨_, 2, .writeX v ⟨nofun, nofun⟩, by decide, e⟩
  · exact ⟨_, 2, .writeY v ⟨nofun, nofun⟩, by decide, e⟩
  · exact ⟨_, 3, .store z s.a ⟨nofun, nofun⟩, by decide, e⟩
  · exact ⟨_, 3, .store z s.x ⟨nofun, nofun⟩, by decide, e⟩
  · exact ⟨_, 3, .store z s.y ⟨nofun, nofun⟩, by decide, e⟩
  · exact ⟨_, 2, .writeX s.a ⟨nofun, nofun⟩, by decide, e⟩
  · exact ⟨_, 2, .writeY s.a ⟨nofun, nofun⟩, by decide, e⟩
  · exact ⟨_, 2, .writeX (s.x + 1) ⟨nofun, nofun⟩, by decide, e⟩
  · exact ⟨_, 2, .writeY (s.y + 1) ⟨nofun, nofun⟩, by decide, e⟩
  · exact ⟨_, 2, .writeX (s.x + 255) ⟨nofun, nofun⟩, by decide, e⟩
  · exact ⟨_, 2, .writeY (s.y + 255) ⟨nofun, nofun⟩, by decide, e⟩
  · exact ⟨_, 3, .jump lo hi rfl, by decide, e⟩
  · exact ⟨_, 7, .halt rfl, by decide, e⟩
  · obtain ⟨h0, hbrk, hjmp⟩ := operandCount_of_unassigned hop
    refine ⟨fetched i s, 2, .idle ⟨hbrk, hjmp⟩, by decide, ?_⟩
    rw [e s, fetched, h0]

/-- A HALTED step counts one cycle (R129). -/
theorem step_of_halted {c : Cartridge} {s : State} (h : Halted c s) : step s = .next (s.charge 1) := by
  obtain ⟨hl, hh⟩ := h
  simp [step, loadedCart_ok.2 hl, hh, haltedStep]

/-- A RUNNING step runs the fetched instruction (R130). -/
theorem step_of_running {c : Cartridge} {s : State} (h : Running c s) : step s = exec (fetchInstr c s) s := by
  obtain ⟨hl, hh⟩ := h
  simp [step, loadedCart_ok.2 hl, hh]

/-- A step that answers counts a HALTED cycle, or has an effect of the fetched instruction and books its cost. -/
theorem step_next {s t : State} (h : step s = .next t) :
    (∃ c, Halted c s ∧ t = s.charge 1) ∨
    (∃ c u k, Running c s ∧ Effect (fetchInstr c s) s u ∧ k ∈ [2, 3, 7] ∧ t = u.charge k) := by
  obtain ⟨r, -, e⟩ | ⟨c, hl, hh, e⟩ | ⟨c, hl, hh, e⟩ := step_cases s
  · rw [e] at h; cases h
  · rw [e] at h; cases h
    exact .inl ⟨c, ⟨hl, hh⟩, rfl⟩
  · obtain ⟨u, k, hu, hk, hx⟩ := exec_effect (fetchInstr c s) s
    rw [e, hx] at h; cases h
    exact .inr ⟨c, u, k, ⟨hl, hh⟩, hu, hk, rfl⟩

/-! ### The fetched bytes -/

/-- The Bus looks at the low 16 bits of an address (R63). -/
theorem busRead_mod (c : Cartridge) (s : State) (addr : Nat) : busRead c s (addr % 0x10000) = busRead c s addr := by
  simp only [busRead, busTarget, Nat.mod_mod]

theorem fetchByte_eq_busRead (c : Cartridge) (s : State) {k : Nat} (hk : k < 0x10000) :
    fetchByte c s k = busRead c s (s.pc.toNat + k) := by
  rw [fetchByte, memRead, BitVec.toNat_add, BitVec.toNat_ofNat, Nat.mod_eq_of_lt hk, busRead_mod]

/-- The grid's entry for an opcode byte builds an instruction of that opcode, whatever its operands (R124). -/
theorem formOf_build_opcode (op : Byte) (operand : Nat → Byte) : ((formOf op).build operand).opcode = op := by
  revert op
  -- a check of the 256 bytes; `decide` itself does not take the free `operand`, which no opcode depends on
  exact of_decide_eq_true rfl

/-- The fetched instruction's opcode is the byte at `PC` (R130). -/
theorem fetchInstr_opcode (c : Cartridge) (s : State) : (fetchInstr c s).opcode = busRead c s s.pc.toNat := by
  rw [fetchInstr, formOf_build_opcode, fetchByte_eq_busRead c s (by decide), Nat.add_zero]

/-- A fetched jump holds the two bytes after its opcode (R190). -/
theorem fetchInstr_jmp {c : Cartridge} {s : State} {lo hi : Byte} (h : fetchInstr c s = .jmp lo hi) :
    lo = busRead c s (s.pc.toNat + 1) ∧ hi = busRead c s (s.pc.toNat + 2) := by
  have hop : fetchByte c s 0 = 0x4C := by
    have := congrArg Instr.opcode h
    rwa [fetchInstr, formOf_build_opcode] at this
  rw [fetchInstr, hop] at h
  cases h
  exact ⟨fetchByte_eq_busRead c s (by decide), fetchByte_eq_busRead c s (by decide)⟩

/-- Only `BRK` enters HALTED (R217). -/
theorem Effect.halted {i : Instr} {s u : State} (h : Effect i s u) :
    u.halted = (s.halted || decide (i.opcode = 0x00)) := by
  have hs (h : StraightLine i) : s.halted = (s.halted || decide (i.opcode = 0x00)) := by
    rw [decide_eq_false h.1, Bool.or_false]
  cases h with
  | idle h => exact hs h
  | writeA v h => exact hs h
  | writeX v h => exact hs h
  | writeY v h => exact hs h
  | store z v h => exact (memWrite_halted ..).trans (hs h)
  | jump lo hi h => subst h; exact (Bool.or_false _).symm
  | halt h => subst h; exact (Bool.or_true _).symm

/-- `PC` after an instruction: the operand of `JMP`, or past the instruction's bytes (R26, R190). -/
theorem Effect.pc {i : Instr} {s u : State} (h : Effect i s u) :
    (∃ lo hi, i = .jmp lo hi ∧ u.pc = absTarget lo hi) ∨
    (i.opcode ≠ 0x4C ∧ u.pc = s.pc + BitVec.ofNat 16 (1 + operandCount i.opcode)) := by
  cases h with
  | jump lo hi h => exact .inl ⟨lo, hi, h, rfl⟩
  | halt h => exact .inr ⟨by subst h; decide, rfl⟩
  | idle h => exact .inr ⟨h.2, rfl⟩
  | writeA v h => exact .inr ⟨h.2, rfl⟩
  | writeX v h => exact .inr ⟨h.2, rfl⟩
  | writeY v h => exact .inr ⟨h.2, rfl⟩
  | store z v h => exact .inr ⟨h.2, memWrite_pc _ _ _⟩

/-- The target of a jump as a number, low byte first (R72, D7). -/
theorem absTarget_eq_ofNat (lo hi : Byte) : absTarget lo hi = BitVec.ofNat 16 (hi.toNat * 256 + lo.toNat) := by
  apply BitVec.eq_of_toNat_eq
  have hlo := lo.isLt
  have hhi := hi.isLt
  have happend : (absTarget lo hi).toNat = hi.toNat <<< 8 ||| lo.toNat := BitVec.toNat_append hi lo
  rw [happend, ← Nat.shiftLeft_add_eq_or_of_lt hlo, Nat.shiftLeft_eq, BitVec.toNat_ofNat]
  omega

/-! ### The counters of a step -/

/-- A step costs 1, 2, 3 or 7, and both counters gain what R131 says. -/
theorem step_counters {s t : State} (h : step s = .next t) :
    ∃ k ∈ [1, 2, 3, 7], t.cycles = s.cycles + k ∧ t.totalCycles = s.totalCycles + (s.cycles + k) := by
  obtain ⟨c, -, rfl⟩ | ⟨c, u, k, -, hu, hk, rfl⟩ := step_next h
  · exact ⟨1, by decide, rfl, rfl⟩
  · have hcounters : u.cycles = s.cycles ∧ u.totalCycles = s.totalCycles := by cases hu <;> simp
    obtain ⟨hc, ht⟩ := hcounters
    exact ⟨k, List.mem_cons_of_mem _ hk, by rw [State.charge_cycles, hc], by rw [State.charge_totalCycles, hc, ht]⟩

/-! ### No step reads a flag -/

theorem memWrite_setP (s : State) (q : Byte) (addr : Word) (v : Byte) :
    memWrite (s.setP q) addr v = (memWrite s addr v).setP q := by
  unfold memWrite busWrite
  split <;> rfl

/-- The fetch reads no flag. -/
theorem fetchInstr_setP (c : Cartridge) (s : State) (q : Byte) : fetchInstr c (s.setP q) = fetchInstr c s := rfl

/-- An instruction reads no flag: with another `P` it does the same and leaves another `P` (R31). -/
theorem exec_setP (i : Instr) (s : State) (q : Byte) :
    ∃ t q', exec i s = .next t ∧ exec i (s.setP q) = .next (t.setP q') := by
  have hstore (z v : Byte) : ((memWrite ((s.setP q).advancePC 2) (zeroPage z) v).charge 3) =
      ((memWrite (s.advancePC 2) (zeroPage z) v).charge 3).setP q :=
    congrArg (State.charge · 3) (memWrite_setP (s.advancePC 2) q (zeroPage z) v)
  obtain ⟨rfl, e⟩ | ⟨v, rfl, e⟩ | ⟨v, rfl, e⟩ | ⟨v, rfl, e⟩ | ⟨z, rfl, e⟩ | ⟨z, rfl, e⟩ | ⟨z, rfl, e⟩ |
    ⟨rfl, e⟩ | ⟨rfl, e⟩ | ⟨rfl, e⟩ | ⟨rfl, e⟩ | ⟨rfl, e⟩ | ⟨rfl, e⟩ | ⟨lo, hi, rfl, e⟩ | ⟨rfl, e⟩ |
    ⟨-, -, e⟩ := exec_cases i s
  · exact ⟨_, q, e, rfl⟩
  · exact ⟨_, znFlags q v, e, rfl⟩
  · exact ⟨_, znFlags q v, e, rfl⟩
  · exact ⟨_, znFlags q v, e, rfl⟩
  · exact ⟨_, q, e, congrArg _ (hstore z s.a)⟩
  · exact ⟨_, q, e, congrArg _ (hstore z s.x)⟩
  · exact ⟨_, q, e, congrArg _ (hstore z s.y)⟩
  · exact ⟨_, znFlags q s.a, e, rfl⟩
  · exact ⟨_, znFlags q s.a, e, rfl⟩
  · exact ⟨_, znFlags q (s.x + 1), e, rfl⟩
  · exact ⟨_, znFlags q (s.y + 1), e, rfl⟩
  · exact ⟨_, znFlags q (s.x + 255), e, rfl⟩
  · exact ⟨_, znFlags q (s.y + 255), e, rfl⟩
  · exact ⟨_, q, e, rfl⟩
  · exact ⟨_, q, e, rfl⟩
  · exact ⟨_, q, e s, e (s.setP q)⟩

/-! ### Invariants of a frame -/

section
variable {P : State → Prop} (hstep : ∀ s t, P s → step s = .next t → P t)
  (hpicture : ∀ s, P s → P (pictureStep s))
include hstep hpicture

/-- What every step and every timing step keep, the frame loop keeps. -/
theorem frameLoop_keeps {target n : Nat} {s t : State} (hs : P s) (h : frameLoop target n s = .next t) : P t := by
  induction n generalizing s with
  | zero => cases h; exact hs
  | succ n ih =>
    rw [frameLoop] at h
    split at h
    · cases hu : step s with
      | fault f => cases f
      | refused r => simp [frameBody, hu] at h
      | next u =>
        rw [frameBody_next hu] at h
        exact ih (hpicture _ (hpicture _ (hpicture _ (hstep s u hs hu)))) h
    · cases h; exact hs

/-- What moreover the end of a frame keeps, a whole frame keeps (R236). -/
theorem stepFrame_keeps (hfinish : ∀ s, P s → P (finishFrame s)) {s t : State} (hs : P s)
    (h : stepFrame s = .next t) : P t := by
  unfold stepFrame at h
  split at h
  · cases h
  · split at h
    next u hu => cases h; exact hfinish u (frameLoop_keeps hstep hpicture hs hu)
    next f _ => cases f
    next => cases h
end

/-! ### The invariant, operation by operation -/

namespace State.Inv

variable {s : State}

theorem setA (h : s.Inv) (v : Byte) : (s.setA v).Inv := { h with }
theorem setX (h : s.Inv) (v : Byte) : (s.setX v).Inv := { h with }
theorem setY (h : s.Inv) (v : Byte) : (s.setY v).Inv := { h with }
theorem setPC (h : s.Inv) (target : Word) : (s.setPC target).Inv := { h with }
theorem halt (h : s.Inv) : s.halt.Inv := { h with }

/-- `SetZN` leads from the flag bytes of R158 to one of them. -/
theorem setZN (h : s.Inv) (v : Byte) : (s.setZN v).Inv :=
  { h with pReach := by rw [State.setZN_p, znFlags_eq_flagsAfter]; exact flagsAfter_reach v h.pReach }

theorem charge (h : s.Inv) (cost : Nat) : (s.charge cost).Inv :=
  { h with cyclesMin := Nat.le_add_right_of_le h.cyclesMin }

/-- A Bus write lands within one store and keeps it canonical, or does nothing (R42, R62). -/
theorem busWrite (h : s.Inv) (addr v : Nat) : (busWrite s addr v).Inv := by
  have hr := busTarget_range addr
  obtain ⟨i, ht, e⟩ | ⟨i, ht, e⟩ | ⟨i, ht, e⟩ | ⟨-, e⟩ := busWrite_cases s addr v
  · have hi : i < Config.cpuRamSize := by simpa [ht] using hr
    rw [e]
    exact { h with ramForm := Memory.wf_write _ _ h.ramForm, ramWithin := Memory.within_write _ hi h.ramWithin }
  · have hi : i < Config.ppuRegsSize := by simpa [ht] using hr
    rw [e]
    exact { h with ppuForm := Memory.wf_write _ _ h.ppuForm, ppuWithin := Memory.within_write _ hi h.ppuWithin }
  · have hi : i < Config.apuRegsSize := by simpa [ht] using hr
    rw [e]
    exact { h with apuForm := Memory.wf_write _ _ h.apuForm, apuWithin := Memory.within_write _ hi h.apuWithin }
  · rwa [e]

theorem effect {i : Instr} {u : State} (h : s.Inv) (hu : Effect i s u) : u.Inv := by
  have hf : (fetched i s).Inv := h.setPC _
  cases hu with
  | idle => exact hf
  | writeA v => exact (hf.setA v).setZN v
  | writeX v => exact (hf.setX v).setZN v
  | writeY v => exact (hf.setY v).setZN v
  | store z v => exact hf.busWrite _ _
  | jump lo hi => exact hf.setPC _
  | halt => exact hf.halt

theorem step {t : State} (h : s.Inv) (hs : step s = .next t) : t.Inv := by
  obtain ⟨c, -, rfl⟩ | ⟨c, u, k, -, hu, -, rfl⟩ := step_next hs
  · exact h.charge 1
  · exact (h.effect hu).charge k

/-- A timing step keeps the counters in range (R45, R230). -/
theorem pictureStep (h : s.Inv) : (pictureStep s).Inv := by
  have hd := h.dotRange
  have hl := h.scanlineRange
  unfold Machine.pictureStep
  split
  · split
    · exact { h with dotRange := Nat.zero_le _, scanlineRange := Nat.zero_le _ }
    · exact { h with dotRange := Nat.zero_le _, scanlineRange := by simp only [State.setPicture_scanline]; omega }
  · exact { h with dotRange := by simp only [State.setPicture_dot]; omega }

theorem finishFrame (h : s.Inv) : (finishFrame s).Inv :=
  { h with frameForm := Memory.wf_tabulate _ _, frameWithin := Memory.within_tabulate _ _ }

theorem cpuReset (h : s.Inv) (c : Cartridge) : (cpuReset c s).Inv :=
  { h with spReset := rfl, pReach := .inl rfl, cyclesMin := Nat.le_refl 7 }

theorem consoleResetOn (h : s.Inv) (c : Cartridge) : (consoleResetOn c s).Inv := { h.cpuReset c with }

/-- A well-formed cartridge goes in with a new, empty Bus (R43, R264). -/
theorem installCart (h : s.Inv) {c : Cartridge} (hc : c.Wf) (h0 : c.prgSize ≠ 0) : (installCart c s).Inv :=
  { h with
    ramForm := Memory.wf_nil
    ramWithin := Memory.within_nil _
    ppuForm := Memory.wf_nil
    ppuWithin := Memory.within_nil _
    apuForm := Memory.wf_nil
    apuWithin := Memory.within_nil _
    cartOk := fun d hd => by cases hd; exact ⟨hc, h0⟩ }

end State.Inv

/-! ### The inert registers -/

/-- `SP` and the bits of `P` other than N and Z are those of `s` (R24, R33). -/
def SameInert (s t : State) : Prop := t.sp = s.sp ∧ t.p &&& 0x7D = s.p &&& 0x7D

theorem SameInert.effect {i : Instr} {s t u : State} (h : SameInert s t) (hu : Effect i t u) : SameInert s u := by
  obtain ⟨hsp, hp⟩ := h
  have hzn (v : Byte) : znFlags t.p v &&& 0x7D = s.p &&& 0x7D := by
    rw [znFlags_eq_flagsAfter, flagsAfter_and_inert, hp]
  cases hu with
  | idle => exact ⟨hsp, hp⟩
  | writeA v => exact ⟨hsp, hzn v⟩
  | writeX v => exact ⟨hsp, hzn v⟩
  | writeY v => exact ⟨hsp, hzn v⟩
  | store z v => exact ⟨(memWrite_sp ..).trans hsp, by rw [memWrite_p]; exact hp⟩
  | jump => exact ⟨hsp, hp⟩
  | halt => exact ⟨hsp, hp⟩

theorem SameInert.step {s t u : State} (h : SameInert s t) (hu : step t = .next u) : SameInert s u := by
  obtain ⟨c, -, rfl⟩ | ⟨c, v, k, -, hv, -, rfl⟩ := step_next hu
  · exact h
  · exact SameInert.effect (u := v) h hv

theorem SameInert.pictureStep {s t : State} (h : SameInert s t) : SameInert s (pictureStep t) := by
  obtain ⟨d, l, f, e⟩ := pictureStep_cases t
  rw [e]
  exact h

/-! ### The loader -/

/-- A load that succeeds gives the image of the file (R86). -/
theorem load_ok {file : Option (List Byte)} {c : Cartridge} (h : load file = .ok c) :
    ∃ bytes, file = some bytes ∧ c = imageCartridge bytes := by
  cases file with
  | none => cases h
  | some bytes =>
    refine ⟨bytes, rfl, ?_⟩
    simp only [load] at h
    split_ifs at h
    exact (Except.ok.inj h).symm

/-- Whatever the file, its image is within R41. -/
theorem imageCartridge_wf (file : List Byte) : (imageCartridge file).Wf where
  prgUnits := ⟨_, Nat.le_of_lt_succ (headerByte file 4).isLt, rfl⟩
  chrUnits := ⟨_, Nat.le_of_lt_succ (headerByte file 5).isLt, rfl⟩
  prgForm := Memory.wf_ofBytes _
  prgWithin := Memory.within_ofBytes _ (List.length_take_le _ _)
  chrForm := Memory.wf_ofBytes _
  chrWithin := Memory.within_ofBytes _ (List.length_take_le _ _)

/-- Storage filled from `n` bytes of a file from offset `k` reads that part of the file. -/
theorem read_ofBytes_slice (file : List Byte) {k n i : Nat} (hi : i < n) :
    (Memory.ofBytes ((file.drop k).take n)).read i = file.getD (k + i) 0 := by
  rw [Memory.read_ofBytes]
  simp [List.getD, hi, unlistedByte]

/-- Before the first load there is no cartridge to run (R49). -/
theorem loadedCart_of_none {s : State} (h : s.cart = none) : loadedCart s = .error .noCartridge := by
  simp [loadedCart, h]

end Sys2Proof.Machine

/-! ### The statements -/

namespace Sys2Proof.Proofs

open Sys2Proof.Machine

/-- Settles O57: each effect of an instruction keeps the invariant, and so does the bookkeeping. -/
theorem stepsKeepTheInvariant : Obligations.StepsKeepTheInvariant := fun _ _ h hs => h.step hs

/-- Settles O58: each of the host's transitions keeps the invariant; the frame by induction over its loop, a load
because the loader builds well-formed cartridges. -/
theorem hostCallsKeepTheInvariant : Obligations.HostCallsKeepTheInvariant := by
  intro k s t r h hk
  obtain rfl | ⟨file, c, -, hc, h0, rfl⟩ | ⟨c, -, -, rfl⟩ | ⟨-, hf⟩ | ⟨-, hs⟩ | ⟨c, -, -, rfl⟩ |
    ⟨addr, value, -, rfl⟩ | ⟨-, rfl⟩ := hostCall_cases hk
  · exact h
  · obtain ⟨bytes, -, rfl⟩ := load_ok hc
    exact (h.installCart (imageCartridge_wf bytes) h0).consoleResetOn _
  · exact h.consoleResetOn c
  · exact stepFrame_keeps (fun _ _ h => h.step) (fun _ h => h.pictureStep) (fun _ h => h.finishFrame) h hf
  · exact h.step hs
  · exact h.cpuReset c
  · exact h.busWrite addr value
  · exact h.pictureStep

/-- Settles O18: `SetZN` is the flag formula of R158, read bit by bit. -/
theorem setZnWritesZeroAndNegativeOnly : Obligations.SetZnWritesZeroAndNegativeOnly := by
  intro s v
  have hp : (s.setZN v).p = Reading.flagsAfter s.p v := znFlags_eq_flagsAfter s.p v
  have hZ : (s.setZN v).flagZ = decide (v = 0) := by rw [State.flagZ, hp, flagsAfter_getLsbD_one]
  have hN : (s.setZN v).flagN = v.getLsbD 7 := by rw [State.flagN, hp, flagsAfter_getLsbD_seven]
  refine ⟨?_, hZ, hN, ?_, fun k hk => by rw [hp, flagsAfter_getLsbD_inert hk]⟩
  · rw [← hp]; rfl
  · rw [hZ, hN, zero_and_negative_exclude]

/-- Settles O19: neither the fetch nor an instruction reads `P`. -/
theorem noStepReadsAFlag : Obligations.NoStepReadsAFlag := by
  intro s t q h
  obtain ⟨r, -, e⟩ | ⟨c, hl, hh, e⟩ | ⟨c, hl, hh, e⟩ := step_cases s
  · rw [e] at h; cases h
  · rw [e] at h; cases h
    exact ⟨q, step_of_halted (s := s.setP q) ⟨hl, hh⟩⟩
  · obtain ⟨u, q', hu, hq⟩ := exec_setP (fetchInstr c s) s q
    rw [e, hu] at h; cases h
    rw [← fetchInstr_setP c s q, ← step_of_running (s := s.setP q) ⟨hl, hh⟩] at hq
    exact ⟨q', hq⟩

/-- Settles O20: steps, timing steps and Bus writes keep the inert registers, and resets give them their reset
values. -/
theorem inertRegistersChangeByResetOnly : Obligations.InertRegistersChangeByResetOnly := by
  intro k s t r hk
  have hself : SameInert s s := ⟨rfl, rfl⟩
  obtain rfl | ⟨file, c, rfl, -, -, rfl⟩ | ⟨c, rfl, -, rfl⟩ | ⟨-, hf⟩ | ⟨-, hs⟩ | ⟨c, rfl, -, rfl⟩ |
    ⟨addr, value, -, rfl⟩ | ⟨-, rfl⟩ := hostCall_cases hk
  · exact .inl hself
  · exact .inr ⟨.inr (.inr ⟨file, rfl⟩), rfl, rfl⟩
  · exact .inr ⟨.inl rfl, rfl, rfl⟩
  · exact .inl (stepFrame_keeps (fun _ _ h => h.step) (fun _ h => h.pictureStep) (fun _ h => h) hself hf)
  · exact .inl (hself.step hs)
  · exact .inr ⟨.inr (.inl rfl), rfl, rfl⟩
  · exact .inl (by simp)
  · exact .inl hself.pictureStep

/-- Settles O33: HALTED, at a jump, or at another instruction. -/
theorem stepsMovePCByTheFormat : Obligations.StepsMovePCByTheFormat := by
  intro c s hl
  cases hh : s.halted with
  | true => exact ⟨_, step_of_halted ⟨hl, hh⟩, by simp⟩
  | false =>
    obtain ⟨u, k, hu, -, e⟩ := exec_effect (fetchInstr c s) s
    refine ⟨u.charge k, (step_of_running ⟨hl, hh⟩).trans e, ?_⟩
    rw [State.charge_pc, ← fetchInstr_opcode]
    obtain ⟨lo, hi, hj, hpc⟩ | ⟨hop, hpc⟩ := hu.pc
    · obtain ⟨rfl, rfl⟩ := fetchInstr_jmp hj
      rw [hpc, absTarget_eq_ofNat, hj]
      rfl
    · rw [hpc, if_neg (by decide), if_neg hop]

/-- Settles O34: of the effects, only that of `BRK` halts. -/
theorem onlyBrkHaltsAStepAndCpuResetResumes : Obligations.OnlyBrkHaltsAStepAndCpuResetResumes := by
  intro c s hl
  refine ⟨?_, cpuReset c s, by simp only [cpuResetCall, onBus, loadedCart_ok.2 hl], rfl⟩
  cases hh : s.halted with
  | true => exact ⟨_, step_of_halted ⟨hl, hh⟩, hh⟩
  | false =>
    obtain ⟨u, k, hu, -, e⟩ := exec_effect (fetchInstr c s) s
    refine ⟨u.charge k, (step_of_running ⟨hl, hh⟩).trans e, ?_⟩
    rw [State.charge_halted, hu.halted, hh, fetchInstr_opcode]

/-- Settles O39, by induction on the number of steps. -/
theorem countersOfARun : Obligations.CountersOfARun := by
  intro n
  induction n with
  | zero =>
    intro s t h
    cases h
    exact ⟨[], rfl, nofun, rfl, rfl⟩
  | succ n ih =>
    intro s t h
    rw [Reading.steps] at h
    split at h
    next u hu =>
      obtain ⟨k, hk, hc, ht⟩ := step_counters hu
      obtain ⟨costs, hlen, hmem, hcs, hts⟩ := ih u t h
      refine ⟨k :: costs, by rw [List.length_cons, hlen], List.forall_mem_cons.2 ⟨hk, hmem⟩, ?_, ?_⟩
      · rw [hcs, hc, List.sum_cons, Nat.add_assoc]
      · rw [hts, ht, hc, Reading.runningSum, Nat.add_assoc]
    next f _ => cases f
    next => cases h

/-- Settles O46: the loader stores two slices of the file. -/
theorem loadedCartridgeHoldsTheImage : Obligations.LoadedCartridgeHoldsTheImage := by
  intro file c h
  obtain ⟨bytes, hb, rfl⟩ := load_ok h
  cases hb
  exact ⟨Nat.mul_comm .., Nat.mul_comm .., fun i hi => read_ofBytes_slice file hi,
    fun i hi => read_ofBytes_slice file hi, imageCartridge_wf file⟩

/-- Settles O8: each of these calls asks for the cartridge first. -/
theorem nothingRunsWithoutACartridge : Obligations.NothingRunsWithoutACartridge := by
  intro s h
  have hc : loadedCart s = .error .noCartridge := loadedCart_of_none h
  exact ⟨by rw [step, hc], by rw [cpuResetCall, onBus, hc], by rw [consoleReset, onBus, hc], by rw [stepFrame, hc]⟩

/-- Settles O56: at reset there is no storage written and no cartridge, and every register has its reset value. -/
theorem resetStateIsWithinTheInvariant : Obligations.ResetStateIsWithinTheInvariant where
  ramForm := Memory.wf_nil
  ramWithin := Memory.within_nil _
  ppuForm := Memory.wf_nil
  ppuWithin := Memory.within_nil _
  apuForm := Memory.wf_nil
  apuWithin := Memory.within_nil _
  frameForm := Memory.wf_nil
  frameWithin := Memory.within_nil _
  cartOk := nofun
  spReset := rfl
  pReach := .inl rfl
  dotRange := Nat.zero_le _
  scanlineRange := Nat.zero_le _
  cyclesMin := Nat.le_refl 7

end Sys2Proof.Proofs

/-! ## Proofs of the family `20_memory.md` -/

namespace Sys2Proof.Machine

/-! ### The Bus, address by address -/

/-- The dispatch of R60 with the bounds and masks as R61 and R62 write them. -/
theorem busTarget_eq_masks (addr : Nat) : busTarget addr =
    let a := addr &&& 0xFFFF
    if a ≤ 0x1FFF then .ram (a &&& 0x07FF)
    else if a ≤ 0x3FFF then .ppu (a &&& 0x0007)
    else if a ≤ 0x401F then (if a - 0x4000 < 24 then .apu (a - 0x4000) else .unmapped)
    else if a ≤ 0x7FFF then .unmapped
    else .prg (a - 0x8000) := by
  have hmask : addr &&& 0xFFFF = addr % 0x10000 := Nat.and_two_pow_sub_one_eq_mod addr 16
  have hram (n : Nat) : n &&& 0x07FF = n % 0x0800 := Nat.and_two_pow_sub_one_eq_mod n 11
  have hppu (n : Nat) : n &&& 0x0007 = n % 8 := Nat.and_two_pow_sub_one_eq_mod n 3
  simp only [hmask, hram, hppu]
  split_ifs with h1 h2 h3 h4 h5
  · exact busTarget_lo (by omega)
  · exact busTarget_ppuWindow (by omega) (by omega)
  · exact busTarget_apuWindow (by omega) (by omega)
  · exact busTarget_hole (by omega) (by omega)
  · exact busTarget_hole (by omega) (by omega)
  · exact busTarget_prgWindow (by omega)

/-- A byte of the Bus's own storage: RAM or a register (R42). -/
def BusTarget.isStorage : BusTarget → Bool
  | .ram _ | .ppu _ | .apu _ => true
  | .unmapped | .prg _ => false

/-- The Bus's storage ends at `0x4018` (R60, R66, D9). -/
theorem busTarget_isStorage (addr : Nat) : (busTarget addr).isStorage = true ↔ addr % 0x10000 < 0x4018 := by
  by_cases h1 : addr % 0x10000 < 0x2000
  · rw [busTarget_lo h1]; exact iff_of_true rfl (by omega)
  by_cases h2 : addr % 0x10000 < 0x4000
  · rw [busTarget_ppuWindow (by omega) h2]; exact iff_of_true rfl (by omega)
  by_cases h3 : addr % 0x10000 < 0x4018
  · rw [busTarget_apuWindow (by omega) h3]; exact iff_of_true rfl h3
  by_cases h4 : addr % 0x10000 < 0x8000
  · rw [busTarget_hole (by omega) h4]; exact iff_of_false Bool.false_ne_true h3
  · rw [busTarget_prgWindow (by omega)]; exact iff_of_false Bool.false_ne_true h3

/-- A read looks at what stands behind its address only. -/
theorem busRead_of_target_eq {a b : Nat} (h : busTarget a = busTarget b) (c : Cartridge) (s : State) :
    busRead c s a = busRead c s b := by
  simp only [busRead, h]

/-- What a read returns after a write: the byte written where the same byte of storage stands behind both
addresses, the byte from before at every other address (R75, R77). -/
theorem busRead_busWrite (c : Cartridge) (s : State) (addr addr' v : Nat) :
    busRead c (busWrite s addr v) addr' =
      if busTarget addr' = busTarget addr ∧ (busTarget addr').isStorage then BitVec.ofNat 8 v
      else busRead c s addr' := by
  -- each store that is written, against each store that is read
  obtain ⟨i, ht, e⟩ | ⟨i, ht, e⟩ | ⟨i, ht, e⟩ | ⟨ht | ⟨o, ht⟩, e⟩ := busWrite_cases s addr v <;> rw [e, ht] <;>
    cases h : busTarget addr' <;> simp [busRead, h, BusTarget.isStorage, Memory.read_write]

/-- A byte written to storage is read back at every address of its cell. -/
theorem busRead_busWrite_same {a b : Nat} (h : busTarget b = busTarget a) (hb : b % 0x10000 < 0x4018)
    (c : Cartridge) (s : State) (v : Nat) : busRead c (busWrite s a v) b = BitVec.ofNat 8 v := by
  rw [busRead_busWrite, if_pos ⟨h, (busTarget_isStorage b).2 hb⟩]

section
variable {addr i : Nat} {s : State}

theorem busRead_of_apu (h : busTarget addr = .apu i) (c : Cartridge) : busRead c s addr = s.apuRegs.read i := by
  simp only [busRead, h]

theorem busWrite_of_ppu (h : busTarget addr = .ppu i) (v : Nat) :
    busWrite s addr v = { s with ppuRegs := s.ppuRegs.write i (BitVec.ofNat 8 v) } := by
  simp only [busWrite, h]

theorem busWrite_of_apu (h : busTarget addr = .apu i) (v : Nat) :
    busWrite s addr v = { s with apuRegs := s.apuRegs.write i (BitVec.ofNat 8 v) } := by
  simp only [busWrite, h]

theorem busRead_of_unmapped (h : busTarget addr = .unmapped) (c : Cartridge) : busRead c s addr = 0x00 := by
  simp only [busRead, h]

theorem busWrite_of_unmapped (h : busTarget addr = .unmapped) (v : Nat) : busWrite s addr v = s := by
  simp only [busWrite, h]

theorem busWrite_of_prg (h : busTarget addr = .prg i) (v : Nat) : busWrite s addr v = s := by
  simp only [busWrite, h]
end

/-- Addresses between the APU window's storage and the PRG window read zero and ignore writes (R66, R67). -/
theorem bus_hole {a : Nat} (h : 0x4018 ≤ a) (h' : a < 0x8000) (c : Cartridge) (s : State) (v : Nat) :
    busRead c s a = 0x00 ∧ busWrite s a v = s := by
  have ht : busTarget a = .unmapped := busTarget_hole (by omega) (by omega)
  exact ⟨busRead_of_unmapped ht c, busWrite_of_unmapped ht v⟩

/-- The PRG window reads the image modulo its size (R68). -/
theorem busRead_prgWindow {a : Nat} (h : 0x8000 ≤ a) (h' : a ≤ 0xFFFF) (c : Cartridge) (s : State) :
    busRead c s a = c.prgRom.read ((a - 0x8000) % c.prgSize) := by
  have ha : a % 0x10000 = a := Nat.mod_eq_of_lt (by omega)
  simp only [busRead, busTarget_prgWindow (addr := a) (by omega), ha]

/-- A read looks at the PRG image of the cartridge only, and there at offsets below `0x8000` (R68, R94). -/
theorem busRead_congr_cart {c d : Cartridge} (hsize : d.prgSize = c.prgSize)
    (hrom : ∀ o, o < 0x8000 → d.prgRom.read (o % c.prgSize) = c.prgRom.read (o % c.prgSize)) (s : State)
    (addr : Nat) : busRead d s addr = busRead c s addr := by
  obtain ⟨i, h, -⟩ | ⟨i, h, -⟩ | ⟨i, h, -⟩ | h | ⟨o, h, ho⟩ := busTarget_range addr <;> simp only [busRead, h]
  rw [hsize, hrom o ho]

/-- Two bytes as a word's number, low byte first (R72). -/
theorem absTarget_toNat (lo hi : Byte) : (absTarget lo hi).toNat = hi.toNat * 256 + lo.toNat := by
  have hlo := lo.isLt
  have hhi := hi.isLt
  rw [absTarget_eq_ofNat, BitVec.toNat_ofNat]
  omega

/-! ### What a step writes outside the CPU -/

/-- But for the CPU's registers and the first 256 bytes of RAM, `t` is `s` (R82). -/
def SameOutsidePageZero (s t : State) : Prop :=
  t.ppuRegs = s.ppuRegs ∧ t.apuRegs = s.apuRegs ∧ t.cart = s.cart ∧ t.dot = s.dot ∧ t.scanline = s.scanline ∧
  t.frameCount = s.frameCount ∧ t.frameBuffer = s.frameBuffer ∧ t.tick = s.tick ∧
  ∀ i, 0x100 ≤ i → t.cpuRam.read i = s.cpuRam.read i

theorem SameOutsidePageZero.refl (s : State) : SameOutsidePageZero s s :=
  ⟨rfl, rfl, rfl, rfl, rfl, rfl, rfl, rfl, fun _ _ => rfl⟩

/-- A zero-page store writes one byte below `0x100` of RAM (R165). -/
theorem sameOutsidePageZero_memWrite (s : State) (zp v : Byte) :
    SameOutsidePageZero s (memWrite s (zeroPage zp) v) := by
  rw [memWrite_zeroPage]
  refine ⟨rfl, rfl, rfl, rfl, rfl, rfl, rfl, rfl, fun i hi => ?_⟩
  have hne : i ≠ zp.toNat := by have := zp.isLt; omega
  exact (Memory.read_write ..).trans (if_neg hne)

theorem Effect.sameOutsidePageZero {i : Instr} {s u : State} (h : Effect i s u) : SameOutsidePageZero s u := by
  cases h with
  | idle => exact .refl s
  | writeA => exact .refl s
  | writeX => exact .refl s
  | writeY => exact .refl s
  | store z v => exact sameOutsidePageZero_memWrite (fetched i s) z v
  | jump => exact .refl s
  | halt => exact .refl s

/-! ### What a step sees of the cartridge -/

/-- An instruction does not see the cartridge, and leaves it. -/
theorem exec_withCart (i : Instr) (s : State) (k : Option Cartridge) :
    ∃ t, exec i s = .next t ∧ exec i { s with cart := k } = .next { t with cart := k } := by
  have hstore (z v : Byte) : (memWrite ({ s with cart := k }.advancePC 2) (zeroPage z) v).charge 3 =
      { (memWrite (s.advancePC 2) (zeroPage z) v).charge 3 with cart := k } := by
    simp only [memWrite_zeroPage]; rfl
  obtain ⟨rfl, e⟩ | ⟨v, rfl, e⟩ | ⟨v, rfl, e⟩ | ⟨v, rfl, e⟩ | ⟨z, rfl, e⟩ | ⟨z, rfl, e⟩ | ⟨z, rfl, e⟩ |
    ⟨rfl, e⟩ | ⟨rfl, e⟩ | ⟨rfl, e⟩ | ⟨rfl, e⟩ | ⟨rfl, e⟩ | ⟨rfl, e⟩ | ⟨lo, hi, rfl, e⟩ | ⟨rfl, e⟩ |
    ⟨-, -, e⟩ := exec_cases i s
  · exact ⟨_, e, rfl⟩
  · exact ⟨_, e, rfl⟩
  · exact ⟨_, e, rfl⟩
  · exact ⟨_, e, rfl⟩
  · exact ⟨_, e, congrArg _ (hstore z s.a)⟩
  · exact ⟨_, e, congrArg _ (hstore z s.x)⟩
  · exact ⟨_, e, congrArg _ (hstore z s.y)⟩
  · exact ⟨_, e, rfl⟩
  · exact ⟨_, e, rfl⟩
  · exact ⟨_, e, rfl⟩
  · exact ⟨_, e, rfl⟩
  · exact ⟨_, e, rfl⟩
  · exact ⟨_, e, rfl⟩
  · exact ⟨_, e, rfl⟩
  · exact ⟨_, e, rfl⟩
  · exact ⟨_, e s, e _⟩

/-- The fetch sees the Bus only. -/
theorem fetchInstr_congr {c d : Cartridge} {s t : State} (hpc : t.pc = s.pc)
    (hbus : ∀ addr, busRead d t addr = busRead c s addr) : fetchInstr d t = fetchInstr c s := by
  simp only [fetchInstr, fetchByte, memRead, hpc, hbus]

/-! ### The loader's cases -/

/-- A cartridge with no PRG does not run (R69). -/
theorem loadedCart_of_emptyPrg {s : State} {c : Cartridge} (h : s.cart = some c) (h0 : c.prgSize = 0) :
    loadedCart s = .error .emptyPrg := by
  simp only [loadedCart, h, h0, if_true]

/-- An image with no PRG is not loaded (R69). -/
theorem loadRom_of_emptyPrg {file : Option (List Byte)} {c : Cartridge} (h : load file = .ok c)
    (h0 : c.prgSize = 0) (s : State) : loadRom file s = .refused .emptyPrg := by
  have hc : loadedCart (installCart c s) = .error .emptyPrg := loadedCart_of_emptyPrg rfl h0
  simp only [loadRom, h, consoleReset, onBus, hc]

/-- A failed load names its error and leaves the state (R265). -/
theorem loadRom_of_error {file : Option (List Byte)} {e : LoadError} (h : load file = .error e) (s : State) :
    loadRom file s = .next (s, .error e) := by
  simp only [loadRom, h]

/-- The bytes an image needs: the header, the PRG data and the CHR data (R85). -/
def imageLength (file : List Byte) : Nat := headerSize + imagePrgSize file + imageChrSize file

theorem imageLength_eq (file : List Byte) :
    imageLength file = 16 + 16384 * (file.getD 4 0).toNat + 8192 * (file.getD 5 0).toNat := by
  simp only [imageLength, headerSize, imagePrgSize, imageChrSize, headerByte, Config.prgUnit, Config.chrUnit,
    Nat.mul_comm]

section
variable {file : List Byte}

theorem load_of_badMagic (hm : file.take 4 ≠ inesMagic) : load (some file) = .error .invalidFormat := if_pos hm

/-- A file that ends early fails alike in its header and in its data (R88). -/
theorem load_of_short (hm : file.take 4 = inesMagic) (h : file.length < imageLength file) :
    load (some file) = .error .io := by
  rw [load, if_neg (not_not.2 hm)]
  split
  · rfl
  · exact if_pos h

theorem load_of_complete (hm : file.take 4 = inesMagic) (h : imageLength file ≤ file.length) :
    load (some file) = .ok (imageCartridge file) := by
  have hheader : ¬ file.length < headerSize := by unfold imageLength at h; omega
  rw [load, if_neg (not_not.2 hm), if_neg hheader]
  exact if_neg (Nat.not_lt.2 h)
end

/-- The mapper number is the two high nibbles side by side (R87). -/
theorem imageMapperId_toNat (file : List Byte) :
    (imageMapperId file).toNat = (headerByte file 7).toNat / 16 * 16 + (headerByte file 6).toNat / 16 := by
  have hhigh (b : Byte) : (b &&& 0xF0).toNat = (b.toNat / 16) <<< 4 := by revert b; decide
  have hlow : (headerByte file 6).toNat / 16 < 2 ^ 4 := by have := (headerByte file 6).isLt; omega
  rw [imageMapperId, BitVec.toNat_or, BitVec.toNat_ushiftRight, Nat.shiftRight_eq_div_pow, hhigh, Nat.or_comm,
    ← Nat.shiftLeft_add_eq_or_of_lt hlow, Nat.shiftLeft_eq]

/-- Files that agree at `n` offsets from `k` on have the same slice there. -/
theorem slice_congr {f g : List Byte} {k n : Nat} (hlen : f.length = g.length)
    (h : ∀ i, k ≤ i → i < k + n → f.getD i 0 = g.getD i 0) : (f.drop k).take n = (g.drop k).take n := by
  refine List.ext_getElem (by simp [hlen]) fun i hf hg => ?_
  simp only [List.length_take, List.length_drop] at hf hg
  have hi := h (k + i) (by omega) (by omega)
  rw [List.getD_eq_getElem f 0 (by omega), List.getD_eq_getElem g 0 (by omega)] at hi
  simpa using hi

/-- The loader sees the magic, the length and the cartridge of the image. -/
theorem load_congr {f g : List Byte} (hmagic : f.take 4 = g.take 4) (hlen : f.length = g.length)
    (hcart : imageCartridge f = imageCartridge g) : load (some f) = load (some g) := by
  have hprg : imagePrgSize f = imagePrgSize g := congrArg Cartridge.prgSize hcart
  have hchr : imageChrSize f = imageChrSize g := congrArg Cartridge.chrSize hcart
  simp only [load, hmagic, hlen, hcart, hprg, hchr]

end Sys2Proof.Machine

/-! ### The statements -/

namespace Sys2Proof.Proofs

open Sys2Proof.Machine

/-- Settles O9: the cartridge is asked for its size before anything runs, and the PRG window is 32 KiB long. -/
theorem prgSizeEdges : Obligations.PrgSizeEdges := by
  refine ⟨fun c s hc h0 => ?_, fun file c s hload h0 => ?_, fun c rom s hsize hrom addr => ?_⟩
  · rw [step, loadedCart_of_emptyPrg hc h0]
  · obtain ⟨bytes, hb, rfl⟩ := load_ok hload
    cases hb
    have hprg : imagePrgSize file = 0 := by rw [imagePrgSize, headerByte, h0]; rfl
    exact loadRom_of_emptyPrg hload hprg s
  · refine busRead_congr_cart (c := c) (d := { c with prgRom := rom }) rfl (fun o ho => ?_) s addr
    rw [Nat.mod_eq_of_lt (Nat.lt_of_lt_of_le ho hsize)]
    exact hrom o ho

/-- Settles O21: the map says which store or image is read in each range. -/
theorem busReadFollowsTheMap : Obligations.BusReadFollowsTheMap := by
  intro c s addr
  rw [busRead, busTarget_eq_masks]
  dsimp only
  split_ifs <;> rfl

/-- Settles O22: the map says which store is written in each range, with the low byte of the value. -/
theorem busWriteFollowsTheMap : Obligations.BusWriteFollowsTheMap := by
  intro s addr v
  have hbyte : BitVec.ofNat 8 (v &&& 0xFF) = BitVec.ofNat 8 v := by
    apply BitVec.eq_of_toNat_eq
    rw [Nat.and_two_pow_sub_one_eq_mod v 8]
    simp
  rw [busWrite, busTarget_eq_masks, hbyte]
  dsimp only
  split_ifs <;> rfl

/-- Settles O23: a write reaches one byte of storage, and storage ends at `0x4018`. -/
theorem readsSeeTheLastWrite : Obligations.ReadsSeeTheLastWrite := by
  intro c s addr addr' v
  simp only [busRead_busWrite, busTarget_isStorage]

/-- Settles O24: addresses of RAM that differ by a multiple of `0x800` have one cell. -/
theorem ramIsMirroredFourTimes : Obligations.RamIsMirroredFourTimes := by
  intro c s a b k ha hb hk
  have ht : busTarget a = busTarget b := by
    rw [busTarget_lo (addr := a) (by omega), busTarget_lo (addr := b) (by omega)]
    exact congrArg BusTarget.ram (by omega)
  exact ⟨busRead_of_target_eq ht c s, busRead_busWrite_same ht.symm (by omega) c s⟩

/-- Settles O25: behind an address of the window stands the register of its low three bits. -/
theorem ppuWindowIsMirroredStorage : Obligations.PpuWindowIsMirroredStorage := by
  intro c s a h h'
  have ht (b : Nat) (hb : 0x2000 ≤ b) (hb' : b < 0x4000) : busTarget b = .ppu (b % 8) :=
    (busTarget_ppuWindow (by omega) (by omega)).trans (congrArg BusTarget.ppu (by omega))
  have hmirror : busTarget a = busTarget (0x2000 + a % 8) := by
    rw [ht a h h', ht (0x2000 + a % 8) (by omega) (by omega)]
    exact congrArg BusTarget.ppu (by omega)
  exact ⟨busRead_of_target_eq hmirror c s,
    fun v => ⟨busRead_busWrite_same rfl (by omega) c s v, busWrite_of_ppu (ht a h h') v⟩⟩

/-- Settles O26: behind `0x4000 + i` stands register `i`, and nothing from `0x4018` on. -/
theorem apuWindowIsLinearStorage : Obligations.ApuWindowIsLinearStorage := by
  refine fun c s v => ⟨fun i hi => ?_, fun a h h' => bus_hole h (by omega) c s v⟩
  have ht : busTarget (0x4000 + i) = .apu i :=
    (busTarget_apuWindow (by omega) (by omega)).trans (congrArg BusTarget.apu (by omega))
  exact ⟨busRead_of_apu ht c, busWrite_of_apu ht v⟩

/-- Settles O27: nothing stands behind these addresses. -/
theorem unmappedRangeReadsZero : Obligations.UnmappedRangeReadsZero :=
  fun c s a v h h' => bus_hole (by omega) (by omega) c s v

/-- Settles O28: the first clause, at the offsets of each size. -/
theorem prgWindowReadsModuloSize : Obligations.PrgWindowReadsModuloSize := by
  intro c s
  have hread (a i : Nat) (h : 0x8000 ≤ a) (h' : a ≤ 0xFFFF) (hi : (a - 0x8000) % c.prgSize = i) :
      busRead c s a = c.prgRom.read i := by
    rw [busRead_prgWindow h h', hi]
  refine ⟨fun a h h' => busRead_prgWindow h h' c s, fun h16 => ?_, fun h32 => ?_⟩
  · rw [h16] at hread
    exact ⟨hread _ _ (by omega) (by omega) (by omega), fun i hi =>
      ⟨hread _ i (by omega) (by omega) (by omega), hread _ i (by omega) (by omega) (by omega)⟩⟩
  · rw [h32] at hread
    exact ⟨hread _ _ (by omega) (by omega) (by omega), fun i hi =>
      hread _ i (by omega) (by omega) (by omega)⟩

/-- Settles O29: behind the window stands the image, which no write reaches. -/
theorem prgWindowDiscardsWrites : Obligations.PrgWindowDiscardsWrites :=
  fun _ a v h h' => busWrite_of_prg (busTarget_prgWindow (addr := a) (by omega)) v

/-- Settles O30: a word read pairs its bytes as an absolute operand does. -/
theorem wordReadsAreLittleEndian : Obligations.WordReadsAreLittleEndian := by
  intro c s addr
  have hnext : (addr + 1).toNat = (addr.toNat + 1) % 65536 := BitVec.toNat_add addr 1
  have h := absTarget_toNat (memRead c s addr) (memRead c s (addr + 1))
  rwa [memRead, memRead, hnext] at h

/-- Settles O31: the target's cell is that of the store. -/
theorem storesAreSeenByTheNextFetch : Obligations.StoresAreSeenByTheNextFetch := by
  intro c s t zp target h hlow hzp
  cases h
  have ht : busTarget target.toNat = busTarget (zeroPage zp).toNat := by
    rw [busTarget_lo (by omega), busTarget_zeroPage, ← hzp]
    exact congrArg BusTarget.ram (by omega)
  rw [fetchInstr_opcode]
  calc
    _ = busRead c (memWrite (s.advancePC 2) (zeroPage zp) s.a) target.toNat := busRead_congr rfl rfl rfl _
    _ = BitVec.ofNat 8 s.a.toNat := busRead_busWrite_same ht (by omega) c _ _
    _ = s.a := BitVec.ofNat_toNat 8 s.a

/-- Settles O32: no effect of an instruction writes more, and the bookkeeping writes the counters. -/
theorem stepsWriteOnlyPageZero : Obligations.StepsWriteOnlyPageZero := by
  intro s t h
  obtain ⟨c, -, rfl⟩ | ⟨c, u, k, -, hu, -, rfl⟩ := step_next h
  · exact SameOutsidePageZero.refl s
  · exact hu.sameOutsidePageZero

/-- Settles O36: the fetch sees the PRG image, and an instruction does not see the cartridge. -/
theorem mapperAndChrHaveNoEffect : Obligations.MapperAndChrHaveNoEffect := by
  intro c d s t hc hrom hsize h
  have hbus (addr : Nat) : busRead d { s with cart := some d } addr = busRead c s addr :=
    busRead_congr_cart hsize (fun o _ => by rw [hrom]) s addr
  obtain ⟨r, -, e⟩ | ⟨b, ⟨hb, h0⟩, hh, e⟩ | ⟨b, ⟨hb, h0⟩, hh, e⟩ := step_cases s
  · rw [e] at h; cases h
  · rw [e] at h; cases h
    obtain rfl : c = b := Option.some.inj (hc.symm.trans hb)
    exact step_of_halted ⟨⟨rfl, hsize ▸ h0⟩, hh⟩
  · obtain rfl : c = b := Option.some.inj (hc.symm.trans hb)
    obtain ⟨u, hu, hd⟩ := exec_withCart (fetchInstr c s) s (some d)
    rw [e, hu] at h; cases h
    have hrun : Running d { s with cart := some d } := ⟨⟨rfl, hsize ▸ h0⟩, hh⟩
    have hfetch : fetchInstr d { s with cart := some d } = fetchInstr c s := fetchInstr_congr rfl hbus
    rw [step_of_running hrun, hfetch, hd]

/-- Settles O44: the two failures named are the loader's own. -/
theorem failedLoadsChangeNothing : Obligations.FailedLoadsChangeNothing :=
  fun s => ⟨loadRom_of_error rfl s, fun _ hm => loadRom_of_error (load_of_badMagic hm) s,
    fun _ _ he => loadRom_of_error he s⟩

/-- Settles O45: a file with another magic, one that ends early, or a complete one. -/
theorem loaderFailuresByTaxonomy : Obligations.LoaderFailuresByTaxonomy := by
  refine ⟨rfl, fun file => ?_⟩
  have hmagic : inesMagic = [0x4E, 0x45, 0x53, 0x1A] := rfl
  rw [← imageLength_eq, ← hmagic]
  have hheader : 16 ≤ imageLength file := by rw [imageLength_eq]; omega
  by_cases hm : file.take 4 = inesMagic
  · obtain hlen | hlen := Nat.lt_or_ge file.length (imageLength file)
    · simp [load_of_short hm hlen, hm, hlen]
    · have hlong : ¬ file.length < 16 := by omega
      simp [load_of_complete hm hlen, hm, hlen, hlong]
  · simp [load_of_badMagic hm, hm]

/-- Settles O47: the mapper number of the loaded image, as bits and as a number. -/
theorem mapperNumberFromTheFlagNibbles : Obligations.MapperNumberFromTheFlagNibbles := by
  intro file c h
  obtain ⟨bytes, hb, rfl⟩ := load_ok h
  cases hb
  exact ⟨rfl, imageMapperId_toNat file⟩

/-- Settles O48: the magic, the sizes, the mapper number and the data are the same in both files. -/
theorem ignoredHeaderFieldsAreIgnored : Obligations.IgnoredHeaderFieldsAreIgnored := by
  intro f g hlen hhead h6 h7 hdata
  have hprg : imagePrgSize f = imagePrgSize g := by simp only [imagePrgSize, headerByte, hhead 4 (by omega)]
  have hchr : imageChrSize f = imageChrSize g := by simp only [imageChrSize, headerByte, hhead 5 (by omega)]
  have hmapper : imageMapperId f = imageMapperId g := by
    apply BitVec.eq_of_toNat_eq
    simp only [imageMapperId_toNat, headerByte, h6, h7]
  have hslice (k n : Nat) (hk : 16 ≤ k) : (f.drop k).take n = (g.drop k).take n :=
    slice_congr hlen fun i hi _ => hdata i (by omega)
  refine load_congr (slice_congr (k := 0) hlen fun i _ hi => hhead i (by omega)) hlen ?_
  simp only [imageCartridge, imagePrg, imageChr, hprg, hchr, hmapper, hslice _ _ (Nat.le_refl 16),
    hslice _ _ (Nat.le_add_right 16 _), headerSize]

end Sys2Proof.Proofs

/-! ## Proofs of the family `30_encoding.md` -/

namespace Sys2Proof

/-! ### The decoder and the encoder -/

/-- An instruction's bytes decode to it, whatever follows them (R120, R121). -/
theorem decode_encode_append (i : Instr) (rest : List Byte) : decode (encode i ++ rest) = .ok (i, rest) := by
  cases i <;> rfl

/-- What the grid builds from an opcode byte and its operands has those bytes as its encoding (R121, R124). -/
theorem encode_formOf_build (op : Byte) (operand : Nat → Byte) :
    encode ((formOf op).build operand) = op :: (List.range (operandCount op)).map operand := by
  obtain ⟨n⟩ := op
  fin_cases n <;> rfl

/-- No instruction has more than two operand bytes (R120). -/
theorem operandCount_le_two (op : Byte) : operandCount op ≤ 2 := by
  unfold operandCount
  split_ifs <;> decide

/-- A format looks at its own operand bytes only. -/
theorem Form.build_congr {f : Form} {p q : Nat → Byte} (h : ∀ k < f.operands, p k = q k) :
    f.build p = f.build q := by
  cases f with
  | imp i => rfl
  | imm mk => exact congrArg mk (h 0 Nat.one_pos)
  | zp mk => exact congrArg mk (h 0 Nat.one_pos)
  | abs mk => exact congrArg₂ mk (h 0 Nat.two_pos) (h 1 Nat.one_lt_two)
  | una i => rfl

section
variable {op : Byte} {ops : List Byte}

theorem decode_of_complete (h : operandCount op ≤ ops.length) :
    decode (op :: ops) = .ok ((formOf op).build (fun k => ops.getD k 0), ops.drop (operandCount op)) := by
  rw [decode, formOf_operands, if_pos h]

theorem decode_of_short (h : ops.length < operandCount op) : decode (op :: ops) = .error (.missingOperand op) := by
  rw [decode, formOf_operands, if_neg (Nat.not_le.2 h)]

/-- The instruction built from the bytes at the front of a byte string has those bytes as its encoding. -/
theorem encode_formOf_build_getD (h : operandCount op ≤ ops.length) :
    encode ((formOf op).build (fun k => ops.getD k 0)) = op :: ops.take (operandCount op) := by
  rw [encode_formOf_build]
  refine congrArg (op :: ·) (List.ext_getElem (by simp [h]) fun k hk _ => ?_)
  rw [List.length_map, List.length_range] at hk
  simp [List.getElem?_eq_getElem (Nat.lt_of_lt_of_le hk h)]
end

end Sys2Proof

namespace Sys2Proof.Machine

/-! ### The unassigned opcodes -/

/-- The ranges of R126 are what the fifteen bytes of R124 leave. -/
theorem unassignedByte_eq (op : Byte) : Reading.unassignedByte op = !decide (op ∈ assignedOpcodes) := by
  revert op; decide

theorem unassignedByte_iff {op : Byte} : Reading.unassignedByte op = true ↔ op ∉ assignedOpcodes := by
  rw [unassignedByte_eq, Bool.not_eq_true', decide_eq_false_iff_not]

/-- An instruction outside the fifteen of R124 is the two-cycle no-op of R200. -/
theorem exec_of_unassigned {i : Instr} (h : i.opcode ∉ assignedOpcodes) (s : State) :
    exec i s = .next ((s.advancePC 1).charge 2) := by
  obtain ⟨rfl, -⟩ | ⟨_, rfl, -⟩ | ⟨_, rfl, -⟩ | ⟨_, rfl, -⟩ | ⟨_, rfl, -⟩ | ⟨_, rfl, -⟩ | ⟨_, rfl, -⟩ |
    ⟨rfl, -⟩ | ⟨rfl, -⟩ | ⟨rfl, -⟩ | ⟨rfl, -⟩ | ⟨rfl, -⟩ | ⟨rfl, -⟩ | ⟨_, _, rfl, -⟩ | ⟨rfl, -⟩ |
    ⟨-, -, e⟩ := exec_cases i s
  on_goal 16 => exact e s
  -- the fifteen assigned instructions
  all_goals exact absurd (of_decide_eq_true rfl) h

/-! ### The fetch, byte by byte -/

section
variable (c : Cartridge) (s : State)

/-- `FetchByte()` after `k` bytes: byte `k`, and `PC` one further (R130). -/
theorem fetchOne_advancePC (k : Nat) :
    Reading.fetchOne c (s.advancePC k) = (fetchByte c s k, s.advancePC (k + 1)) := by
  have hpc : s.pc + BitVec.ofNat 16 k + 1 = s.pc + BitVec.ofNat 16 (k + 1) := by
    rw [BitVec.add_assoc, BitVec.ofNat_add k 1]; rfl
  exact Prod.ext (busRead_congr rfl rfl rfl _) (congrArg s.setPC hpc)

theorem fetchOne_eq : Reading.fetchOne c s = (fetchByte c s 0, s.advancePC 1) := by
  have h0 : s.advancePC 0 = s := congrArg s.setPC (BitVec.add_zero s.pc)
  have h := fetchOne_advancePC c s 0
  rwa [h0] at h

/-- The decoder reads from the three bytes at `PC` the instruction that is fetched (R130). -/
theorem decode_fetched : ∃ rest,
    decode [fetchByte c s 0, fetchByte c s 1, fetchByte c s 2] = .ok (fetchInstr c s, rest) := by
  have hle := operandCount_le_two (fetchByte c s 0)
  have hbuild : (formOf (fetchByte c s 0)).build (fun k => [fetchByte c s 1, fetchByte c s 2].getD k 0) =
      fetchInstr c s := by
    refine Form.build_congr fun k hk => ?_
    rw [formOf_operands] at hk
    obtain rfl | rfl : k = 0 ∨ k = 1 := by omega
    · rfl
    · rfl
  exact ⟨_, (decode_of_complete hle).trans (by rw [hbuild])⟩
end

/-- The bytes of the fetched instruction stand at `PC`, one after the other (R130). -/
theorem fetchByte_of_encode {c : Cartridge} {s : State} {i : Instr} (k : Nat) {b : Byte} (h : fetchInstr c s = i)
    (hb : (encode i)[k]? = some b) : fetchByte c s k = b := by
  subst h
  rw [fetchInstr, encode_formOf_build] at hb
  cases k with
  | zero => exact Option.some.inj hb
  | succ k =>
    rw [List.getElem?_cons_succ, List.getElem?_map, Option.map_eq_some_iff] at hb
    obtain ⟨j, hj, rfl⟩ := hb
    obtain ⟨_, rfl⟩ := List.getElem?_eq_some_iff.1 hj
    rw [List.getElem_range]

/-! ### The pseudocode of a step -/

theorem setZN_eq_setFlags (s : State) (v : Byte) : s.setZN v = Reading.setFlags v s :=
  congrArg s.setP (znFlags_eq_flagsAfter s.p v)

theorem memWrite_eq_busWrite (s : State) (zp v : Byte) : memWrite s (zeroPage zp) v = busWrite s zp.toNat v.toNat := by
  have hzp : (zeroPage zp).toNat = zp.toNat := BitVec.toNat_setWidth_of_le (by decide)
  rw [memWrite, hzp]

theorem arm_of_unassigned {op : Byte} (h : op ∉ assignedOpcodes) (c : Cartridge) (s : State) :
    Reading.arm c op s = (s, 2) := by
  simp only [assignedOpcodes, List.mem_cons, List.not_mem_nil, or_false, not_or] at h
  simp only [Reading.arm, h, if_false]

/-- The fetched instruction does what the arm of its opcode byte does, and then the bookkeeping (R131, R132). -/
theorem exec_fetchInstr (c : Cartridge) (s : State) :
    exec (fetchInstr c s) s = .next (Reading.book (Reading.arm c (fetchByte c s 0) (s.advancePC 1))) := by
  have hfetch1 : Reading.fetchOne c (s.advancePC 1) = (fetchByte c s 1, s.advancePC 2) := fetchOne_advancePC c s 1
  have hfetch2 : Reading.fetchOne c (s.advancePC 2) = (fetchByte c s 2, s.advancePC 3) := fetchOne_advancePC c s 2
  obtain ⟨hf, e⟩ | ⟨v, hf, e⟩ | ⟨v, hf, e⟩ | ⟨v, hf, e⟩ | ⟨z, hf, e⟩ | ⟨z, hf, e⟩ | ⟨z, hf, e⟩ |
    ⟨hf, e⟩ | ⟨hf, e⟩ | ⟨hf, e⟩ | ⟨hf, e⟩ | ⟨hf, e⟩ | ⟨hf, e⟩ | ⟨lo, hi, hf, e⟩ | ⟨hf, e⟩ |
    ⟨hop, -, e⟩ := exec_cases (fetchInstr c s) s
  -- `NOP`
  · rw [e, fetchByte_of_encode 0 hf rfl]; rfl
  -- `LDA`, `LDX`, `LDY`: the operand is the next byte fetched
  · rw [e, fetchByte_of_encode 0 hf rfl, setZN_eq_setFlags, ← fetchByte_of_encode 1 hf rfl]
    simp only [Reading.arm, hfetch1]; rfl
  · rw [e, fetchByte_of_encode 0 hf rfl, setZN_eq_setFlags, ← fetchByte_of_encode 1 hf rfl]
    simp only [Reading.arm, hfetch1]; rfl
  · rw [e, fetchByte_of_encode 0 hf rfl, setZN_eq_setFlags, ← fetchByte_of_encode 1 hf rfl]
    simp only [Reading.arm, hfetch1]; rfl
  -- `STA`, `STX`, `STY`
  · rw [e, fetchByte_of_encode 0 hf rfl, memWrite_eq_busWrite, ← fetchByte_of_encode 1 hf rfl]
    simp only [Reading.arm, hfetch1]; rfl
  · rw [e, fetchByte_of_encode 0 hf rfl, memWrite_eq_busWrite, ← fetchByte_of_encode 1 hf rfl]
    simp only [Reading.arm, hfetch1]; rfl
  · rw [e, fetchByte_of_encode 0 hf rfl, memWrite_eq_busWrite, ← fetchByte_of_encode 1 hf rfl]
    simp only [Reading.arm, hfetch1]; rfl
  -- `TAX`, `TAY`, `INX`, `INY`, `DEX`, `DEY`
  · rw [e, fetchByte_of_encode 0 hf rfl, setZN_eq_setFlags]; rfl
  · rw [e, fetchByte_of_encode 0 hf rfl, setZN_eq_setFlags]; rfl
  · rw [e, fetchByte_of_encode 0 hf rfl, setZN_eq_setFlags]; rfl
  · rw [e, fetchByte_of_encode 0 hf rfl, setZN_eq_setFlags]; rfl
  · rw [e, fetchByte_of_encode 0 hf rfl, setZN_eq_setFlags]; rfl
  · rw [e, fetchByte_of_encode 0 hf rfl, setZN_eq_setFlags]; rfl
  -- `JMP`: two more fetches
  · rw [e, fetchByte_of_encode 0 hf rfl, absTarget_eq_ofNat, ← fetchByte_of_encode 1 hf rfl,
      ← fetchByte_of_encode 2 hf rfl]
    simp only [Reading.arm, hfetch1, hfetch2]; rfl
  -- `BRK`
  · rw [e, fetchByte_of_encode 0 hf rfl]; rfl
  -- unassigned
  · rw [fetchInstr, formOf_build_opcode] at hop
    rw [e s, arm_of_unassigned hop]; rfl

end Sys2Proof.Machine

/-! ### The statements -/

namespace Sys2Proof.Proofs

open Sys2Proof.Machine

/-- Settles O1: one way by the instruction, the other by the opcode byte, whose grid entry builds an instruction
with these bytes. -/
theorem decodingInvertsEncoding : Obligations.DecodingInvertsEncoding := by
  refine fun bs i rest => ⟨fun h => ?_, fun h => h ▸ decode_encode_append i rest⟩
  obtain ⟨op, ops, rfl, hle, rfl, rfl⟩ := decode_ok h
  rw [encode_formOf_build_getD hle, List.cons_append, List.take_append_drop]

/-- Settles O3: the grid's number of operands decides, and what it builds has that many operand bytes. -/
theorem decodingFailsOnlyForMissingBytes : Obligations.DecodingFailsOnlyForMissingBytes := by
  refine ⟨rfl, fun op rest => ⟨fun hle => ⟨_, decode_of_complete hle, formOf_build_opcode op _, ?_⟩, decode_of_short⟩⟩
  rw [encode_formOf_build, List.length_cons, List.length_map, List.length_range, Nat.add_comm]

/-- Settles O4: an unassigned byte has no operands. -/
theorem unassignedBytesAreOneByteNoOps : Obligations.UnassignedBytesAreOneByteNoOps := by
  refine ⟨unassignedByte_eq, fun op rest h => ?_⟩
  have hop : op ∉ assignedOpcodes := unassignedByte_iff.1 h
  have h0 : operandCount op = 0 := (operandCount_of_unassigned hop).1
  have hdecode := decode_of_complete (op := op) (ops := rest) (h0 ▸ Nat.zero_le _)
  have hencode := encode_formOf_build op (fun k => rest.getD k 0)
  rw [h0] at hdecode hencode
  exact ⟨_, hdecode, hencode, fun s => ⟨_, exec_of_unassigned ((formOf_build_opcode op _).symm ▸ hop) s⟩⟩

/-- Settles O7: HALTED, only the bookkeeping; else the arm of the fetched opcode. -/
theorem stepRefinesThePseudocode : Obligations.StepRefinesThePseudocode := by
  intro c s hl
  cases hh : s.halted with
  | true => rw [step_of_halted ⟨hl, hh⟩, Reading.cpuStep, hh]; rfl
  | false => rw [step_of_running ⟨hl, hh⟩, exec_fetchInstr, Reading.cpuStep, hh, fetchOne_eq]; rfl

/-- Settles O17: these are the instructions outside the fifteen. -/
theorem unassignedOpcodesAreNoOps : Obligations.UnassignedOpcodesAreNoOps :=
  fun _ s h => exec_of_unassigned (unassignedByte_iff.1 h) s

/-- Settles O2: each word is an instruction's bytes and a rest. -/
theorem tableWordsDecode : Obligations.TableWordsDecode :=
  ⟨decode_encode_append (.lda 0x42) _, decode_encode_append .nop _, decode_encode_append .brk _,
    decode_encode_append (.stx 0x10) _, decode_encode_append .tax _, decode_encode_append .dey _,
    decode_encode_append (.jmp 0x05 0x80) _, decode_encode_append .unassignedAD _, by decide, by decide⟩

/-- Settles O5: the three bytes from `PC` on hold the fetched instruction. -/
theorem stepRunsTheDecodedInstruction : Obligations.StepRunsTheDecodedInstruction := by
  intro c s hr
  obtain ⟨rest, h⟩ := decode_fetched c s
  rw [fetchByte_eq_busRead c s (by decide), fetchByte_eq_busRead c s (by decide),
    fetchByte_eq_busRead c s (by decide)] at h
  exact ⟨_, rest, h, step_of_running hr⟩

/-- Settles O6: the bookkeeping of one cycle. -/
theorem haltedStepOnlyCounts : Obligations.HaltedStepOnlyCounts := fun _ _ h => step_of_halted h

/-- Settles O37: `chargeIn` mode by mode, and the mode of `charge` is `source`. -/
theorem bookkeepingInBothModes : Obligations.BookkeepingInBothModes := fun _ _ => ⟨rfl, rfl, rfl⟩

end Sys2Proof.Proofs

/-! ## Proofs of the family `40_nop.md` -/

namespace Sys2Proof.Machine

/-- A fetch of `n` bytes and the bookkeeping of cost `k`, and nothing between them: `PC` and the two counters are
all that is written (R130, R131). -/
theorem charge_advancePC (s : State) (n k : Nat) : (s.advancePC n).charge k = { s with
    pc := s.pc + BitVec.ofNat 16 n, cycles := s.cycles + k, totalCycles := s.totalCycles + (s.cycles + k) } := rfl

/-- `NOP` is a fetch of one byte and a cost of two cycles (R150). -/
theorem exec_nop (s : State) : exec .nop s = .next ((s.advancePC 1).charge 2) := rfl

end Sys2Proof.Machine

/-! ### The statements -/

namespace Sys2Proof.Proofs

open Sys2Proof.Machine

/-- Settles O10: `NOP` has no effect between its fetch and the bookkeeping. -/
theorem nopOnlyAdvances : Obligations.NopOnlyAdvances :=
  ⟨decode_encode_append .nop, fun s => (exec_nop s).trans (congrArg Host.Outcome.next (charge_advancePC s 1 2))⟩

end Sys2Proof.Proofs

/-! ## Proofs of the family `41_load_immediate.md` -/

namespace Sys2Proof.Machine

/-- `SetZN` and the bookkeeping of cost `k`, and nothing between them: `P` and the two counters are all that is
written (R131, R158). -/
theorem charge_setZN (s : State) (v : Byte) (k : Nat) : (s.setZN v).charge k = { s with
    p := Reading.flagsAfter s.p v, cycles := s.cycles + k, totalCycles := s.totalCycles + (s.cycles + k) } :=
  congrArg (State.charge · k) (setZN_eq_setFlags s v)

section
variable (v : Byte) (s : State)

/-- `LDA` writes the operand to `A` between its fetch of two bytes and `SetZN` (R155). -/
theorem exec_lda : exec (.lda v) s = .next ((((s.advancePC 2).setA v).setZN v).charge 2) := rfl

/-- `LDX` writes the operand to `X` between its fetch of two bytes and `SetZN` (R156). -/
theorem exec_ldx : exec (.ldx v) s = .next ((((s.advancePC 2).setX v).setZN v).charge 2) := rfl

/-- `LDY` writes the operand to `Y` between its fetch of two bytes and `SetZN` (R157). -/
theorem exec_ldy : exec (.ldy v) s = .next ((((s.advancePC 2).setY v).setZN v).charge 2) := rfl
end

end Sys2Proof.Machine

/-! ### The statements -/

namespace Sys2Proof.Proofs

open Sys2Proof.Machine

/-- Settles O11: the register is written before `SetZN` and the bookkeeping, which leave it as it is. -/
theorem loadsWriteTheirRegister : Obligations.LoadsWriteTheirRegister := by
  intro v s
  refine ⟨?lda, ?ldx, ?ldy⟩
  case lda => rw [exec_lda, charge_setZN]; rfl
  case ldx => rw [exec_ldx, charge_setZN]; rfl
  case ldy => rw [exec_ldy, charge_setZN]; rfl

end Sys2Proof.Proofs

/-! ## Proofs of the family `42_store_zero_page.md` -/

namespace Sys2Proof.Machine

theorem zeroPage_toNat (zp : Byte) : (zeroPage zp).toNat = zp.toNat :=
  BitVec.toNat_setWidth_of_le (by decide)

/-- The addresses of a RAM cell are its mirrors below `0x2000` (R60, R64). -/
theorem busTarget_eq_ram_iff (addr i : Nat) :
    busTarget addr = .ram i ↔ addr % 0x10000 < 0x2000 ∧ addr % 0x0800 = i := by
  by_cases hlo : addr % 0x10000 < 0x2000
  · have hmirror : addr % 0x10000 % 0x0800 = addr % 0x0800 := Nat.mod_mod_of_dvd addr (by decide)
    simp only [busTarget_lo hlo, hmirror, BusTarget.ram.injEq, hlo, true_and]
  · refine iff_of_false ?_ (mt And.left hlo)
    simp only [busTarget, hlo, if_false]
    split_ifs <;> exact nofun

/-- A zero-page store is read back at every mirror of its address and nowhere else (R64, R165). -/
theorem busRead_memWrite_zeroPage (c : Cartridge) (s : State) (zp v : Byte) (addr : Nat) :
    busRead c (memWrite s (zeroPage zp) v) addr =
      if addr % 0x10000 < 0x2000 ∧ addr % 0x0800 = (zeroPage zp).toNat then v else busRead c s addr := by
  have hcell : busTarget addr = .ram zp.toNat ∧ (busTarget addr).isStorage = true ↔
      addr % 0x10000 < 0x2000 ∧ addr % 0x0800 = zp.toNat :=
    (and_iff_left_of_imp fun h => h ▸ rfl).trans (busTarget_eq_ram_iff addr zp.toNat)
  rw [memWrite, busRead_busWrite, busTarget_zeroPage, zeroPage_toNat, BitVec.ofNat_toNat, BitVec.setWidth_eq]
  exact if_congr hcell rfl rfl

/-- A fetch of two bytes, a zero-page store and a cost of three cycles are all a store instruction does (R131,
R165). -/
theorem stores_of_exec {i : Instr} {zp v : Byte} {s : State}
    (h : exec i s = .next ((memWrite (s.advancePC 2) (zeroPage zp) v).charge 3)) : Reading.stores i zp v s := by
  refine ⟨_, h, ?frame, fun c addr => ?memory⟩
  case frame => rw [memWrite_zeroPage]; rfl
  case memory =>
    calc busRead c ((memWrite (s.advancePC 2) (zeroPage zp) v).charge 3) addr
      _ = busRead c (memWrite (s.advancePC 2) (zeroPage zp) v) addr := busRead_congr rfl rfl rfl addr
      _ = _ := busRead_memWrite_zeroPage c (s.advancePC 2) zp v addr

section
variable (zp : Byte) (s : State)

/-- `STA` stores `A` between its fetch of two bytes and the bookkeeping (R165). -/
theorem exec_sta : exec (.sta zp) s = .next ((memWrite (s.advancePC 2) (zeroPage zp) s.a).charge 3) := rfl

/-- `STX` stores `X` between its fetch of two bytes and the bookkeeping (R166). -/
theorem exec_stx : exec (.stx zp) s = .next ((memWrite (s.advancePC 2) (zeroPage zp) s.x).charge 3) := rfl

/-- `STY` stores `Y` between its fetch of two bytes and the bookkeeping (R167). -/
theorem exec_sty : exec (.sty zp) s = .next ((memWrite (s.advancePC 2) (zeroPage zp) s.y).charge 3) := rfl
end

end Sys2Proof.Machine

/-! ### The statements -/

namespace Sys2Proof.Proofs

open Sys2Proof.Machine

/-- Settles O12: each of the three is a zero-page store of its register between a fetch of two bytes and the
bookkeeping. -/
theorem storesWriteOneZeroPageByte : Obligations.StoresWriteOneZeroPageByte :=
  fun zp s => ⟨zeroPage_toNat zp, stores_of_exec (exec_sta zp s), stores_of_exec (exec_stx zp s),
    stores_of_exec (exec_sty zp s)⟩

end Sys2Proof.Proofs

/-! ## Proofs of the family `43_transfer.md` -/

namespace Sys2Proof.Machine

section
variable (s : State)

/-- `TAX` copies `A` to `X` between its fetch of one byte and `SetZN` (R175). -/
theorem exec_tax : exec .tax s = .next ((((s.advancePC 1).setX s.a).setZN s.a).charge 2) := rfl

/-- `TAY` copies `A` to `Y` between its fetch of one byte and `SetZN` (R176). -/
theorem exec_tay : exec .tay s = .next ((((s.advancePC 1).setY s.a).setZN s.a).charge 2) := rfl
end

end Sys2Proof.Machine

/-! ### The statements -/

namespace Sys2Proof.Proofs

open Sys2Proof.Machine

/-- Settles O13: `SetZN` takes the copied `A`, and with the bookkeeping it leaves the register just written as it
is. -/
theorem transfersCopyA : Obligations.TransfersCopyA := by
  intro s
  refine ⟨?tax, ?tay⟩
  case tax => rw [exec_tax, charge_setZN]; rfl
  case tay => rw [exec_tay, charge_setZN]; rfl

end Sys2Proof.Proofs

/-! ## Proofs of the family `44_increment_decrement.md` -/

namespace Sys2Proof.Machine

/-- The sum of two bytes is their sum as numbers modulo 256 (R184). -/
theorem add_eq_ofNat_mod (r k : Byte) : r + k = BitVec.ofNat 8 ((r.toNat + k.toNat) % 256) := by
  rw [← BitVec.toNat_add (x := r) (y := k), BitVec.ofNat_toNat, BitVec.setWidth_eq]

section
variable (s : State)

/-- `X` written between a fetch of one byte and `SetZN`, at a cost of two cycles, is the next state of R180. -/
theorem charge_setZN_setX (v : Byte) : (((s.advancePC 1).setX v).setZN v).charge 2 = Reading.withX s v :=
  charge_setZN ((s.advancePC 1).setX v) v 2

/-- `Y` written between a fetch of one byte and `SetZN`, at a cost of two cycles, is the next state of R181. -/
theorem charge_setZN_setY (v : Byte) : (((s.advancePC 1).setY v).setZN v).charge 2 = Reading.withY s v :=
  charge_setZN ((s.advancePC 1).setY v) v 2

/-- `INX` writes `X + 1` to `X` between its fetch of one byte and `SetZN` (R180). -/
theorem exec_inx : exec .inx s = .next ((((s.advancePC 1).setX (s.x + 1)).setZN (s.x + 1)).charge 2) := rfl

/-- `INY` writes `Y + 1` to `Y` between its fetch of one byte and `SetZN` (R181). -/
theorem exec_iny : exec .iny s = .next ((((s.advancePC 1).setY (s.y + 1)).setZN (s.y + 1)).charge 2) := rfl

/-- `DEX` writes `X + 255` to `X` between its fetch of one byte and `SetZN` (R182). -/
theorem exec_dex : exec .dex s = .next ((((s.advancePC 1).setX (s.x + 255)).setZN (s.x + 255)).charge 2) := rfl

/-- `DEY` writes `Y + 255` to `Y` between its fetch of one byte and `SetZN` (R183). -/
theorem exec_dey : exec .dey s = .next ((((s.advancePC 1).setY (s.y + 255)).setZN (s.y + 255)).charge 2) := rfl
end

end Sys2Proof.Machine

/-! ### The statements -/

namespace Sys2Proof.Proofs

open Sys2Proof.Machine

/-- Settles O14: each writes its sum before `SetZN` and the bookkeeping, which leave the register as it is, and a
sum of bytes wraps modulo 256. -/
theorem incrementsAndDecrementsWrap : Obligations.IncrementsAndDecrementsWrap := by
  intro s
  refine ⟨?inx, ?iny, ?dex, ?dey⟩
  case inx => rw [exec_inx, charge_setZN_setX, add_eq_ofNat_mod]; rfl
  case iny => rw [exec_iny, charge_setZN_setY, add_eq_ofNat_mod]; rfl
  case dex => rw [exec_dex, charge_setZN_setX, add_eq_ofNat_mod]; rfl
  case dey => rw [exec_dey, charge_setZN_setY, add_eq_ofNat_mod]; rfl

end Sys2Proof.Proofs

/-! ## Proofs of the family `45_jump_and_break.md` -/

namespace Sys2Proof.Machine

/-- `JMP` fetches its three bytes, replaces `PC` by its operand and costs three cycles (R190). -/
theorem exec_jmp (lo hi : Byte) (s : State) :
    exec (.jmp lo hi) s = .next (((s.advancePC 3).setPC (absTarget lo hi)).charge 3) := rfl

/-- `BRK` halts between its fetch of one byte and a cost of seven cycles (R191). -/
theorem exec_brk (s : State) : exec .brk s = .next ((s.advancePC 1).halt.charge 7) := rfl

/-- Only a machine with a cartridge that can run has a next state (R49, R69). -/
theorem loaded_of_step {s t : State} (h : step s = .next t) : ∃ c, Loaded c s := by
  obtain ⟨c, ⟨hl, -⟩, -⟩ | ⟨c, -, -, ⟨hl, -⟩, -, -, -⟩ := step_next h
  · exact ⟨c, hl⟩
  · exact ⟨c, hl⟩

/-- What is shown of some next state of a step holds of every one: there is one next state. -/
theorem of_step {P : State → Prop} {s t : State} (hex : ∃ u, step s = .next u ∧ P u) (h : step s = .next t) : P t := by
  obtain ⟨u, hu, hP⟩ := hex
  cases hu.symm.trans h
  exact hP

end Sys2Proof.Machine

/-! ### The statements -/

namespace Sys2Proof.Proofs

open Sys2Proof.Machine

/-- Settles O15: the operand replaces the `PC` that the fetch left, and the bookkeeping keeps it. -/
theorem jmpSetsPC : Obligations.JmpSetsPC :=
  fun lo hi s => ⟨_, exec_jmp lo hi s, absTarget_toNat lo hi, rfl⟩

/-- Settles O16: `halted` is all that `BRK` writes besides what the fetch and the bookkeeping write. -/
theorem brkOnlyHalts : Obligations.BrkOnlyHalts :=
  fun s => (exec_brk s).trans (congrArg Host.Outcome.next (charge_advancePC s.halt 1 7))

/-- Settles O35: the next `PC` (O33) and run state (O34) are functions of `PC`, the run state and the bytes read
from the Bus, and the Bus reads the same in both states. -/
theorem controlFlowIgnoresRegisters : Obligations.ControlFlowIgnoresRegisters := by
  intro s s' t t' hpc hhalted hcart hram hppu hapu h h'
  obtain ⟨c, hl⟩ := loaded_of_step h
  have hl' : Loaded c s' := ⟨hcart.symm.trans hl.1, hl.2⟩
  have hbus (addr : Nat) : busRead c s addr = busRead c s' addr := busRead_congr hram hppu hapu addr
  constructor
  · rw [of_step (stepsMovePCByTheFormat c s hl) h, of_step (stepsMovePCByTheFormat c s' hl') h']
    simp only [hpc, hhalted, hbus]
  · rw [of_step (onlyBrkHaltsAStepAndCpuResetResumes c s hl).1 h,
      of_step (onlyBrkHaltsAStepAndCpuResetResumes c s' hl').1 h', hpc, hhalted, hbus]

end Sys2Proof.Proofs

/-! ## Proofs of the family `60_exceptions.md` -/

namespace Sys2Proof.Machine

/-! ### The PictureUnit's position -/

/-- `n` timing steps write the PictureUnit's three counters and nothing else. -/
theorem pictureSteps_cases (n : Nat) (s : State) : ∃ dot scanline frameCount : Nat,
    pictureSteps n s = s.setPicture dot scanline frameCount := by
  induction n generalizing s with
  | zero => exact ⟨_, _, _, rfl⟩
  | succ n ih =>
    obtain ⟨d, l, f, e⟩ := pictureStep_cases s
    obtain ⟨d', l', f', e'⟩ := ih (pictureStep s)
    exact ⟨d', l', f', by rw [pictureSteps, e', e]; rfl⟩

/-- `t` stands `n` dots after `s`, at a dot and a scanline within R45. -/
def DotsAfter (n : Nat) (s t : State) : Prop :=
  t.dot ≤ 340 ∧ t.scanline ≤ 261 ∧ Reading.position t = Reading.position s + n

theorem DotsAfter.refl {s : State} (hd : s.dot ≤ 340) (hl : s.scanline ≤ 261) : DotsAfter 0 s s :=
  ⟨hd, hl, (Nat.add_zero _).symm⟩

/-- A timing step is one dot further, whether the dot, the scanline or neither wraps (R230). -/
theorem DotsAfter.pictureStep {n : Nat} {s t : State} (h : DotsAfter n s t) : DotsAfter (n + 1) s (pictureStep t) := by
  obtain ⟨hd, hl, hp⟩ := h
  unfold Reading.position at hp
  unfold DotsAfter Machine.pictureStep Reading.position
  split_ifs
  all_goals
    simp only [State.setPicture_dot, State.setPicture_scanline, State.setPicture_frameCount]
    omega

/-- `n` timing steps are `n` dots further (R231). -/
theorem DotsAfter.pictureSteps {k : Nat} {s t : State} (h : DotsAfter k s t) (n : Nat) :
    DotsAfter (k + n) s (pictureSteps n t) := by
  induction n generalizing k t with
  | zero => exact h
  | succ n ih =>
    have hn := ih h.pictureStep
    rwa [Nat.add_right_comm] at hn

/-- A position within R45 determines the three counters (R231). -/
theorem counters_of_position {d l f n m : Nat} (hd : d ≤ 340) (hl : l ≤ 261)
    (h : f * 89342 + l * 341 + d = n * 89342 + m) : d = m % 341 ∧ l = m / 341 % 262 ∧ f = n + m / 89342 := by
  omega

/-! ### The cost of a step -/

/-- Every instruction answers and adds the cost of R280 to `cycles`; a store moves no counter of its own. -/
theorem exec_cost (i : Instr) (s : State) : ∃ t, exec i s = .next t ∧ t.cycles = s.cycles + Reading.cost i := by
  cases i
  case sta | stx | sty => exact ⟨_, rfl, by rw [State.charge_cycles, memWrite_cycles]; rfl⟩
  all_goals exact ⟨_, rfl, rfl⟩

/-- The costs of R280: 2 or 3, but for `BRK`. -/
theorem cost_cases (i : Instr) : (Reading.cost i = 2 ∨ Reading.cost i = 3) ∨ i = .brk := by
  cases i
  case brk => exact .inr rfl
  case sta | stx | sty | jmp => exact .inl (.inr rfl)
  all_goals exact .inl (.inl rfl)

/-- A RUNNING step costs 2 to 7 cycles, and at most 3 unless it halts. -/
theorem step_cost_of_running {c : Cartridge} {s t : State} (h : Running c s) (ht : step s = .next t) :
    s.cycles + 2 ≤ t.cycles ∧ t.cycles ≤ s.cycles + 7 ∧ (t.halted = false → t.cycles ≤ s.cycles + 3) := by
  obtain ⟨u, hu, hcost⟩ := exec_cost (fetchInstr c s) s
  obtain rfl : u = t := Host.Outcome.next.inj (hu.symm.trans ((step_of_running h).symm.trans ht))
  obtain hk | hbrk := cost_cases (fetchInstr c s)
  · exact ⟨by omega, by omega, fun _ => by omega⟩
  · have hhalted : u.halted = true := by
      rw [of_step (Proofs.onlyBrkHaltsAStepAndCpuResetResumes c s h.1).1 ht, ← fetchInstr_opcode, hbrk]
      exact Bool.or_true _
    have h7 : u.cycles = s.cycles + 7 := by rw [hcost, hbrk]; rfl
    exact ⟨by omega, by omega, fun hh => absurd (hhalted.symm.trans hh) (by decide)⟩

/-- With a cartridge loaded a step answers, and the cartridge stays (R132). -/
theorem step_of_loaded {c : Cartridge} {s : State} (h : Loaded c s) : ∃ t, step s = .next t ∧ Loaded c t := by
  obtain ⟨t, ht, -⟩ := Proofs.stepsMovePCByTheFormat c s h
  obtain ⟨-, -, hcart, -⟩ := Proofs.stepsWriteOnlyPageZero s t ht
  exact ⟨t, ht, hcart.trans h.1, h.2⟩

/-! ### Rounds of the frame loop -/

/-- The state after the three timing steps of a round (R236). -/
def afterDots (s : State) : State := pictureStep (pictureStep (pictureStep s))

theorem afterDots_cases (s : State) : ∃ dot scanline frameCount : Nat,
    afterDots s = s.setPicture dot scanline frameCount := pictureSteps_cases 3 s

@[simp] theorem afterDots_cycles (s : State) : (afterDots s).cycles = s.cycles := by
  obtain ⟨d, l, f, e⟩ := afterDots_cases s
  rw [e, State.setPicture_cycles]

@[simp] theorem afterDots_halted (s : State) : (afterDots s).halted = s.halted := by
  obtain ⟨d, l, f, e⟩ := afterDots_cases s
  rw [e, State.setPicture_halted]

theorem Loaded.afterDots {c : Cartridge} {s : State} (h : Loaded c s) : Loaded c (afterDots s) := by
  obtain ⟨d, l, f, e⟩ := afterDots_cases s
  rw [e]
  exact h

/-- A first round, and the others after it. -/
theorem rounds_succ {s t : State} (h : step s = .next t) (k : Nat) :
    Reading.rounds (k + 1) s = Reading.rounds k (afterDots t) := by
  rw [Reading.rounds, h]
  rfl

/-- Rounds that answer began with a step that answers. -/
theorem rounds_succ_next {k : Nat} {s t : State} (h : Reading.rounds (k + 1) s = .next t) :
    ∃ u, step s = .next u ∧ Reading.rounds k (afterDots u) = .next t := by
  cases hu : step s with
  | next u => exact ⟨u, rfl, (rounds_succ hu k).symm.trans h⟩
  | fault f => cases f
  | refused r => rw [Reading.rounds, hu] at h; cases h

/-- Rounds that answer ended with a round: `k` rounds to `u`, and a last one. -/
theorem rounds_last {k : Nat} {s t : State} (h : Reading.rounds (k + 1) s = .next t) :
    ∃ u v, Reading.rounds k s = .next u ∧ step u = .next v ∧ t = afterDots v := by
  induction k generalizing s with
  | zero =>
    obtain ⟨v, hv, ht⟩ := rounds_succ_next h
    cases ht
    exact ⟨s, v, rfl, hv, rfl⟩
  | succ k ih =>
    obtain ⟨w, hw, hrest⟩ := rounds_succ_next h
    obtain ⟨u, v, hu, hv, rfl⟩ := ih hrest
    exact ⟨u, v, (rounds_succ hw k).trans hu, hv, rfl⟩

/-- Rounds move no cartridge and no tick (R236). -/
theorem rounds_cart_tick {k : Nat} {s t : State} (h : Reading.rounds k s = .next t) :
    t.cart = s.cart ∧ t.tick = s.tick := by
  induction k generalizing t with
  | zero => cases h; exact ⟨rfl, rfl⟩
  | succ k ih =>
    obtain ⟨u, v, hu, hv, rfl⟩ := rounds_last h
    obtain ⟨hcart, htick⟩ := ih hu
    obtain ⟨-, -, hcart', -, -, -, -, htick', -⟩ := Proofs.stepsWriteOnlyPageZero u v hv
    obtain ⟨d, l, f, e⟩ := afterDots_cases v
    rw [e]
    exact ⟨hcart'.trans hcart, htick'.trans htick⟩

theorem rounds_loaded {c : Cartridge} {k : Nat} {s t : State} (hs : Loaded c s)
    (h : Reading.rounds k s = .next t) : Loaded c t :=
  ⟨(rounds_cart_tick h).1.trans hs.1, hs.2⟩

/-- `k` rounds are `3 * k` dots further: a CPU step moves none (R236). -/
theorem DotsAfter.rounds {s : State} (h : DotsAfter 0 s s) {k : Nat} {t : State}
    (ht : Reading.rounds k s = .next t) : DotsAfter (3 * k) s t := by
  induction k generalizing t with
  | zero => cases ht; exact h
  | succ k ih =>
    obtain ⟨u, v, hu, hv, rfl⟩ := rounds_last ht
    obtain ⟨-, -, -, hdot, hscanline, hframe, -⟩ := Proofs.stepsWriteOnlyPageZero u v hv
    have hstep : DotsAfter (3 * k) s v := by
      unfold DotsAfter Reading.position
      rw [hdot, hscanline, hframe]
      exact ih hu
    exact hstep.pictureSteps 3

/-- `k` rounds of a RUNNING CPU cost at least 2 cycles each, and at most 3 each unless the last one halts (R238). -/
theorem rounds_cycles {c : Cartridge} {k : Nat} {s t : State} (hl : Loaded c s)
    (hruns : ∀ j < k, ∃ u, Reading.rounds j s = .next u ∧ u.halted = false) (h : Reading.rounds k s = .next t) :
    s.cycles + 2 * k ≤ t.cycles ∧ (t.halted = false → t.cycles ≤ s.cycles + 3 * k) := by
  induction k generalizing t with
  | zero => cases h; exact ⟨Nat.le_refl _, fun _ => Nat.le_refl _⟩
  | succ k ih =>
    obtain ⟨u, v, hu, hv, rfl⟩ := rounds_last h
    obtain ⟨u', hu', hh⟩ := hruns k (Nat.lt_succ_self k)
    obtain rfl : u' = u := Host.Outcome.next.inj (hu'.symm.trans hu)
    obtain ⟨hmin, hmax⟩ := ih (fun j hj => hruns j (Nat.lt_succ_of_lt hj)) hu
    obtain ⟨hstep, -, hrun⟩ := step_cost_of_running ⟨rounds_loaded hl hu, hh⟩ hv
    rw [afterDots_cycles, afterDots_halted]
    exact ⟨by omega, fun ht => by have := hmax hh; have := hrun ht; omega⟩

/-! ### The frame loop -/

theorem frameRuns_iff {target : Nat} {s : State} :
    frameRuns target s = true ↔ s.cycles < target ∧ s.halted = false := by
  simp [frameRuns]

theorem not_frameRuns_iff {target : Nat} {s : State} :
    frameRuns target s = false ↔ target ≤ s.cycles ∨ s.halted = true := by
  rw [← Bool.not_eq_true, frameRuns_iff, not_and_or, Nat.not_lt, Bool.not_eq_false]

theorem frameLoop_of_not_frameRuns {target : Nat} {s : State} (h : frameRuns target s = false) (n : Nat) :
    frameLoop target n s = .next s := by
  cases n with
  | zero => rfl
  | succ n => rw [frameLoop, h, if_neg Bool.false_ne_true]

theorem frameLoop_succ {target : Nat} {s t : State} (h : frameRuns target s = true) (ht : step s = .next t)
    (n : Nat) : frameLoop target (n + 1) s = frameLoop target n (afterDots t) := by
  rw [frameLoop, if_pos h, frameBody_next ht]
  rfl

/-- The while loop of R236: `k` rounds lead from `s` to `t`, the test holds before each of them and fails at `t`. -/
structure LoopRun (target k : Nat) (s t : State) : Prop where
  /-- The rounds. -/
  rounds : Reading.rounds k s = .next t
  /-- The test before each round. -/
  runs : ∀ j < k, ∃ u, Reading.rounds j s = .next u ∧ frameRuns target u = true
  /-- The test after the last. -/
  stops : frameRuns target t = false

theorem LoopRun.refl {target : Nat} {s : State} (h : frameRuns target s = false) : LoopRun target 0 s s :=
  ⟨rfl, nofun, h⟩

/-- A round before a run of the loop. -/
theorem LoopRun.cons {target k : Nat} {s t u : State} (hs : frameRuns target s = true) (ht : step s = .next t)
    (h : LoopRun target k (afterDots t) u) : LoopRun target (k + 1) s u where
  rounds := (rounds_succ ht k).trans h.rounds
  runs
    | 0, _ => ⟨s, rfl, hs⟩
    | j + 1, hj => by rw [rounds_succ ht]; exact h.runs j (Nat.lt_of_succ_lt_succ hj)
  stops := h.stops

/-- As many rounds as the budget has cycles are enough for the test to fail: every step costs a cycle (R238). -/
theorem frameLoop_loopRun {c : Cartridge} {target n : Nat} {s : State} (hl : Loaded c s)
    (hn : target ≤ s.cycles + n) : ∃ k t, LoopRun target k s t ∧ frameLoop target n s = .next t := by
  induction n generalizing s with
  | zero => exact ⟨0, s, .refl (not_frameRuns_iff.2 (.inl hn)), rfl⟩
  | succ n ih =>
    cases hs : frameRuns target s with
    | false => exact ⟨0, s, .refl hs, frameLoop_of_not_frameRuns hs _⟩
    | true =>
      obtain ⟨t, ht, hlt⟩ := step_of_loaded hl
      obtain ⟨cost, hcost, hcycles, -⟩ := step_counters ht
      have hpos : ∀ k ∈ [1, 2, 3, 7], 1 ≤ k := by decide
      have := hpos cost hcost
      have hn' : target ≤ (afterDots t).cycles + n := by rw [afterDots_cycles]; omega
      obtain ⟨k, u, hrun, hloop⟩ := ih hlt.afterDots hn'
      exact ⟨k + 1, u, hrun.cons hs ht, (frameLoop_succ hs ht n).trans hloop⟩

/-- A frame is its loop and the end of the frame (R236). -/
theorem stepFrame_of_frameLoop {c : Cartridge} {s t : State} (hl : Loaded c s)
    (h : frameLoop (s.cycles + 29780) 29780 s = .next t) : stepFrame s = .next (finishFrame t) := by
  simp only [stepFrame, loadedCart_ok.2 hl, Config.frameBudget, h]

/-! ### The host's calls -/

/-- With a cartridge loaded a call on the Bus answers (R49). -/
theorem onBus_of_loaded {c : Cartridge} {s : State} (h : Loaded c s) (f : Cartridge → State) :
    onBus s f = .next (f c) := by
  simp only [onBus, loadedCart_ok.2 h]

/-- A good image with some PRG is loaded (R264). -/
theorem loadRom_of_ok {file : Option (List Byte)} {c : Cartridge} (h : load file = .ok c) (h0 : c.prgSize ≠ 0)
    (s : State) : loadRom file s = .next (consoleResetOn c (installCart c s), .ok ()) := by
  have hl : Loaded c (installCart c s) := ⟨rfl, h0⟩
  simp only [loadRom, h, consoleReset, onBus_of_loaded hl]

end Sys2Proof.Machine

/-! ### The statements -/

namespace Sys2Proof.Proofs

open Sys2Proof.Machine

/-- Settles O50: `n` timing steps are `n` dots further, and the position determines the counters. -/
theorem pictureStepsInClosedForm : Obligations.PictureStepsInClosedForm := by
  intro n s hd hl
  have hmoved := (DotsAfter.refl hd hl).pictureSteps n
  obtain ⟨d, l, f, e⟩ := pictureSteps_cases n s
  rw [e, Nat.zero_add] at hmoved
  rw [e]
  obtain ⟨hd', hl', hp⟩ := hmoved
  have hsum : f * 89342 + l * 341 + d = s.frameCount * 89342 + (s.scanline * 341 + s.dot + n) :=
    hp.trans (by rw [Reading.position, Nat.add_assoc, Nat.add_assoc, Nat.add_assoc])
  obtain ⟨rfl, rfl, rfl⟩ := counters_of_position hd' hl' hsum
  rfl

/-- Settles O52: the fuel of the model's loop does not run out before the test fails. -/
theorem frameIsTheBudgetedLoop : Obligations.FrameIsTheBudgetedLoop := by
  intro c s hl
  obtain ⟨k, t, hrun, hloop⟩ := frameLoop_loopRun hl (Nat.le_refl (s.cycles + 29780))
  refine ⟨k, t, hrun.rounds, fun j hj => ?_, not_frameRuns_iff.1 hrun.stops, ?_⟩
  · obtain ⟨u, hu, hruns⟩ := hrun.runs j hj
    exact ⟨u, hu, frameRuns_iff.1 hruns⟩
  · rw [stepFrame_of_frameLoop hl hloop, finishFrame, (rounds_cart_tick hrun.rounds).2]

/-- Settles O54: the loop of O52 makes at least one round, each costs 2 or 3 cycles but a halting last one, which
costs 7, and before the last one the budget is not used up. -/
theorem frameLengthAndDots : Obligations.FrameLengthAndDots := by
  intro c s hr hd hl
  obtain ⟨hload, hrunning⟩ := hr
  obtain ⟨k, t, hk, hruns, hstops, hframe⟩ := frameIsTheBudgetedLoop c s hload
  obtain ⟨-, -, hdots⟩ := (DotsAfter.refl hd hl).rounds hk
  refine ⟨k, t, hk, hframe, hdots, ?_⟩
  have hruns' (j : Nat) (hj : j < k) : ∃ u, Reading.rounds j s = .next u ∧ u.halted = false := by
    obtain ⟨u, hu, -, hh⟩ := hruns j hj
    exact ⟨u, hu, hh⟩
  obtain ⟨-, hallmax⟩ := rounds_cycles hload hruns' hk
  cases k with
  | zero =>
    cases hk
    obtain hbudget | hh := hstops
    · omega
    · exact absurd (hrunning.symm.trans hh) (by decide)
  | succ m =>
    obtain ⟨u, v, hu, hv, rfl⟩ := rounds_last hk
    obtain ⟨u', hu', hbudget, hh⟩ := hruns m (Nat.lt_succ_self m)
    obtain rfl : u' = u := Host.Outcome.next.inj (hu'.symm.trans hu)
    obtain ⟨hmin, -⟩ := rounds_cycles hload (fun j hj => hruns' j (Nat.lt_succ_of_lt hj)) hu
    obtain ⟨-, hmax, hrun⟩ := step_cost_of_running ⟨rounds_loaded hload hu, hh⟩ hv
    rw [afterDots_cycles, afterDots_halted] at hstops hallmax ⊢
    refine ⟨fun hrunning' => ?_, fun _ => by omega⟩
    have hend := hstops.resolve_right (by rw [hrunning']; decide)
    have := hallmax hrunning'
    have := hrun hrunning'
    omega

/-- Settles O55: each call asks for the cartridge, which is there, and then has an answer; `loadRom` brings a
cartridge of its own. -/
theorem everyCallButAnEmptyLoadAnswers : Obligations.EveryCallButAnEmptyLoadAnswers := by
  intro c s hl k
  cases k with
  | loadRom file =>
    cases hf : load file with
    | error e => exact .inl ⟨_, _, by rw [hostCall, loadRom_of_error hf]⟩
    | ok d =>
      by_cases h0 : d.prgSize = 0
      · obtain ⟨bytes, rfl, -⟩ := load_ok hf
        exact .inr ⟨bytes, d, rfl, hf, h0, by rw [hostCall, loadRom_of_emptyPrg hf h0]⟩
      · exact .inl ⟨_, _, by rw [hostCall, loadRom_of_ok hf h0]⟩
  | reset => exact .inl ⟨_, _, by rw [hostCall, consoleReset, onBus_of_loaded hl, replying]⟩
  | stepFrame =>
    obtain ⟨k, t, -, -, -, ht⟩ := frameIsTheBudgetedLoop c s hl
    exact .inl ⟨_, _, by rw [hostCall, ht, replying]⟩
  | cpuStep =>
    obtain ⟨t, ht, -⟩ := step_of_loaded hl
    exact .inl ⟨_, _, by rw [hostCall, ht, replying]⟩
  | cpuReset => exact .inl ⟨_, _, by rw [hostCall, cpuResetCall, onBus_of_loaded hl, replying]⟩
  | busRead addr => exact .inl ⟨_, _, by rw [hostCall, loadedCart_ok.2 hl]⟩
  | busWrite addr value => exact .inl ⟨_, _, by rw [hostCall, onBus_of_loaded hl, replying]⟩
  | pictureStep => exact .inl ⟨_, _, rfl⟩
  | renderFrame tick => exact .inl ⟨_, _, rfl⟩

/-- Settles O49: `setPicture` writes the three counters, and a counter written with its own value stays. -/
theorem pictureStepWrapsDotAndScanline : Obligations.PictureStepWrapsDotAndScanline := fun _ => rfl

/-- Settles O51: a frame is the table of its `FrameSource`. -/
theorem framesAreDrawnFromTheTick : Obligations.FramesAreDrawnFromTheTick :=
  fun tick i => Memory.read_tabulate (Config.frameSource tick) Config.frameBytes i

/-- Settles O53: the test fails before the first round. -/
theorem haltedFrameOnlyTicks : Obligations.HaltedFrameOnlyTicks :=
  fun _ _ h => stepFrame_of_frameLoop h.1 (frameLoop_of_not_frameRuns (not_frameRuns_iff.2 (.inr h.2)) 29780)

end Sys2Proof.Proofs

/-! ## Proofs of the family `70_reset_and_hazards.md` -/

namespace Sys2Proof.Machine

/-! ### The resets -/

/-- With a cartridge loaded `CPU.reset()` answers (R49, R260). -/
theorem cpuResetCall_of_loaded {c : Cartridge} {s : State} (h : Loaded c s) :
    cpuResetCall s = .next (cpuReset c s) := onBus_of_loaded h _

/-- With a cartridge loaded `Console.reset()` answers (R49, R262). -/
theorem consoleReset_of_loaded {c : Cartridge} {s : State} (h : Loaded c s) :
    consoleReset s = .next (consoleResetOn c s) := onBus_of_loaded h _

/-- The word at `0xFFFC` is made of the bytes at `0xFFFC` and `0xFFFD` (R72, R260). -/
theorem resetVector_eq_ofNat (c : Cartridge) (s : State) : memRead2 c s 0xFFFC =
    BitVec.ofNat 16 ((busRead c s 0xFFFD).toNat * 256 + (busRead c s 0xFFFC).toNat) :=
  absTarget_eq_ofNat (memRead c s 0xFFFC) (memRead c s 0xFFFD)

/-- The reset vector's two bytes lie in the PRG window (R261). -/
theorem resetVector_toNat (c : Cartridge) (s : State) : (memRead2 c s 0xFFFC).toNat =
    (c.prgRom.read (0x7FFD % c.prgSize)).toNat * 256 + (c.prgRom.read (0x7FFC % c.prgSize)).toNat := by
  have hlo := busRead_prgWindow (a := 0xFFFC) (by decide) (by decide) c s
  have hhi := busRead_prgWindow (a := 0xFFFD) (by decide) (by decide) c s
  calc
    _ = (busRead c s 0xFFFD).toNat * 256 + (busRead c s 0xFFFC).toNat := Proofs.wordReadsAreLittleEndian c s 0xFFFC
    _ = _ := by rw [hlo, hhi]

/-- Below the PRG window a Bus with nothing stored reads `INIT_BUS` everywhere (R43, R61). -/
theorem busRead_of_emptyStores {s : State} (hram : s.cpuRam = []) (hppu : s.ppuRegs = []) (hapu : s.apuRegs = [])
    (c : Cartridge) {addr : Nat} (h : addr < 0x8000) : busRead c s addr = 0x00 := by
  by_cases h1 : addr < 0x2000
  · simp only [busRead, busTarget_lo (addr := addr) (by omega), hram]; rfl
  by_cases h2 : addr < 0x4000
  · simp only [busRead, busTarget_ppuWindow (addr := addr) (by omega) (by omega), hppu]; rfl
  by_cases h3 : addr < 0x4018
  · simp only [busRead, busTarget_apuWindow (addr := addr) (by omega) (by omega), hapu]; rfl
  · exact (bus_hole (by omega) h c s 0).1

end Sys2Proof.Machine

/-! ### The statements -/

namespace Sys2Proof.Proofs

open Sys2Proof.Machine

/-- Settles O38: the cost of each instruction, the one cycle of a HALTED step, and what a reset writes to `cycles`. -/
theorem stepCostsAreTheTables : Obligations.StepCostsAreTheTables :=
  ⟨exec_cost, fun _ s h => ⟨_, step_of_halted h, State.charge_cycles s 1⟩,
    fun c s h => ⟨_, cpuResetCall_of_loaded h, cpuReset_cycles c s⟩⟩

/-- Settles O43: the load leaves the reset of the machine with the cartridge and three empty stores. -/
theorem loadRomInstallsAndResets : Obligations.LoadRomInstallsAndResets :=
  fun _ c s hf h0 => ⟨_, loadRom_of_ok hf h0 s, rfl,
    fun _ haddr => busRead_of_emptyStores rfl rfl rfl c haddr, resetVector_toNat c (installCart c s),
    rfl, rfl, rfl, rfl, rfl, rfl, rfl, rfl, rfl, rfl, rfl, rfl, rfl⟩

/-- Settles O40: besides `PC`, which is the word at the vector, `cpuReset` writes the constants of R260. -/
theorem cpuResetWritesEveryCpuField : Obligations.CpuResetWritesEveryCpuField := by
  intro c s h
  rw [cpuResetCall_of_loaded h, cpuReset, resetVector_eq_ofNat]

/-- Settles O41: both resets answer, and the fields named are kept by that of the CPU. -/
theorem consoleResetAlsoZeroesTickAndFrameCount : Obligations.ConsoleResetAlsoZeroesTickAndFrameCount :=
  fun _ _ h => ⟨_, cpuResetCall_of_loaded h, consoleReset_of_loaded h, rfl, rfl, rfl, rfl, rfl, rfl, rfl⟩

/-- Settles O42: the reset's `PC` is the word at the vector. -/
theorem resetVectorComesFromTheCartridge : Obligations.ResetVectorComesFromTheCartridge :=
  fun c s h => ⟨_, cpuResetCall_of_loaded h, resetVector_toNat c s⟩

end Sys2Proof.Proofs
